-- ==== Sys2Proof/Word.lean ====
section
/-!
DEFINITION. The words of TOTP-CORE: bytes, 32-bit register words and 64-bit
numbers (spec 00_scope.md rules R9 and R10). Everything computed on them stands
under Machine/.
-/

namespace Sys2Proof

/-- A byte, 8 bits (R10). -/
abbrev Byte := BitVec 8

/-- A register word: every bus access moves one of these (R8, R74). -/
abbrev Word32 := BitVec 32

/-- A 64-bit number: a timestamp or a counter (R8). -/
abbrev Word64 := BitVec 64

end Sys2Proof
end

