-- ==== Sys2Proof/Syntax.lean ====
section
/-!
DEFINITION. The eleven commands of TOTP-CORE (spec 30_encoding.md rule R101),
one constructor per row of spec/opcode_table.json, and the one command format
(R100). A command has no operand: each one reads and writes fixed registers
(R45, R100).
-/

namespace Sys2Proof

/-- The commands (R101). -/
inductive Instr where
  /-- `CONFIGURE` (R131): validate the staging registers and copy them into the active configuration. -/
  | configure
  /-- `CLEAR` (R136): every state element back to its reset value. -/
  | clear
  /-- `HMAC` (R197): the digest of the counter under the active secret. -/
  | hmac
  /-- `TRUNC` (R216): dynamic truncation of the digest. -/
  | trunc
  /-- `TS2CTR` (R242): the counter of the timestamp operand. -/
  | ts2ctr
  /-- `CTEQ` (R253): constant-time comparison of the candidate with the code. -/
  | cteq
  /-- `HOTP` (R231): the code of the counter. -/
  | hotp
  /-- `GENAT` (R261): the code of the timestamp operand. -/
  | genat
  /-- `NOW` (R263): the code of the time sampled at acceptance. -/
  | now
  /-- `VERIFYAT` (R265): verify the candidate around the timestamp operand. -/
  | verifyat
  /-- `VERIFY` (R266): verify the candidate around the time sampled at acceptance. -/
  | verify
  deriving DecidableEq, Repr

/-- The fields of a command word in the format `CMD` (R100): `OPCODE` is bits
7:0 and `ZERO` is bits 31:8. -/
structure CmdWord where
  opcode : BitVec 8
  zero   : BitVec 24
  deriving DecidableEq, Repr

end Sys2Proof
end

