-- ==== Sys2Proof/WellFormed.lean ====
section
/-!
DEFINITION. Which command words the format admits, checked field by field from
the list of reserved encodings of spec 30_encoding.md rule R104 (the decoder is
written from the table of R101 instead; a statement says that the two agree),
and which instructions are well formed: all, since a command carries no operand
(R100).
-/

namespace Sys2Proof

/-- The field `ZERO` holds 0 (R100). -/
def CmdWord.zeroOk (c : CmdWord) : Bool := c.zero == 0

/-- The field `OPCODE` is none of the reserved opcodes 0x00, 0x03 to 0x0F,
0x14 to 0x1F and 0x25 to 0xFF (R104). -/
def CmdWord.opcodeOk (c : CmdWord) : Bool :=
  let op := c.opcode.toNat
  !(op == 0x00 || (0x03 ≤ op && op ≤ 0x0F) || (0x14 ≤ op && op ≤ 0x1F) || 0x25 ≤ op)

/-- A legal command word (R104). -/
def CmdWord.wf (c : CmdWord) : Bool := c.zeroOk && c.opcodeOk

/-- A command has no operand that could be out of range (R100). -/
def Instr.wf : Instr → Bool
  | .configure | .clear | .hmac | .trunc | .ts2ctr | .cteq
  | .hotp | .genat | .now | .verifyat | .verify => true

end Sys2Proof
end

