-- ==== Sys2Proof/Decode.lean ====
section
/-!
DEFINITION. The decoder of command words, total on every 32-bit word and
refusing by name, and after it the encoder, both from spec 30_encoding.md rules
R100, R101 and R104.
-/

namespace Sys2Proof

/-- Why a word is no command (R104). Either way the engine ends the command
with `ILLEGAL_COMMAND` (R103). -/
inductive DecodeError where
  /-- A bit of 31:8 is set. -/
  | nonzeroUpperBits
  /-- Bits 31:8 are clear and the opcode is reserved. -/
  | reservedOpcode
  deriving DecidableEq, Repr

/-- The fields of a command word (R100). -/
def cmdWordOf (w : Word32) : CmdWord :=
  { opcode := w.extractLsb' 0 8, zero := w.extractLsb' 8 24 }

/-- The command table of R101: opcode and command. -/
def opcodeTable : List (BitVec 8 × Instr) :=
  [ (0x01, .configure), (0x02, .clear),
    (0x10, .hmac), (0x11, .trunc), (0x12, .ts2ctr), (0x13, .cteq),
    (0x20, .hotp), (0x21, .genat), (0x22, .now), (0x23, .verifyat), (0x24, .verify) ]

/-- The decoder (R103, first check, and R104). -/
def decode (w : Word32) : Except DecodeError Instr :=
  if w.extractLsb' 8 24 = 0 then
    match opcodeTable.lookup (w.extractLsb' 0 8) with
    | some i => .ok i
    | none => .error .reservedOpcode
  else .error .nonzeroUpperBits

/-- The opcode of a command (R101). -/
def opcodeOf : Instr → BitVec 8
  | .configure => 0x01
  | .clear => 0x02
  | .hmac => 0x10
  | .trunc => 0x11
  | .ts2ctr => 0x12
  | .cteq => 0x13
  | .hotp => 0x20
  | .genat => 0x21
  | .now => 0x22
  | .verifyat => 0x23
  | .verify => 0x24

/-- The word of a command: its opcode in bits 7:0 and zeros above (R100). -/
def encode (i : Instr) : Word32 := (0#24 ++ opcodeOf i).setWidth 32

/-- The command word that stands in the low `nbits` bits of `w`, the bits above
them zero. A command word is the data of one 32-bit bus write, so its bit `k` is
bit `k` of the number. -/
def tableWord (nbits w : Nat) : Word32 := BitVec.ofNat 32 (w % 2 ^ nbits)

/-- What the decoder reads from an instruction of the opcode table given as a
number. There is one length, 32 bits (R100). -/
def decodeTableWord (nbits w : Nat) : Option Instr :=
  if nbits ≤ 32 then (decode (tableWord nbits w)).toOption else none

end Sys2Proof
end

