-- ==== Sys2Proof/Machine/Bytes.lean ====
section
/-!
DEFINITION. Byte strings and byte buffers: the notation of spec 00_scope.md
rules R9 and R10, and the byte lanes of the register buffers, 20_memory.md rule
R75. A byte string is a list, its first byte the head.
-/

namespace Sys2Proof.Machine

/-- `rotl_w(x, n)` (R9), for 0 < n < w. -/
def rotl {w : Nat} (x : BitVec w) (n : Nat) : BitVec w := (x <<< n) ||| (x >>> (w - n))

/-- `rotr_w(x, n)` (R9), for 0 < n < w. -/
def rotr {w : Nat} (x : BitVec w) (n : Nat) : BitVec w := (x >>> n) ||| (x <<< (w - n))

/-- `BE_n(v)`: byte `k` is `v[8(n-1-k)+7 : 8(n-1-k)]` (R10). -/
def beBytes : Nat → Nat → List Byte
  | 0, _ => []
  | n + 1, v => BitVec.ofNat 8 (v >>> (8 * n)) :: beBytes n v

/-- `be(s)`: the unsigned integer whose big-endian encoding is `s` (R10). -/
def be (s : List Byte) : Nat := s.foldl (fun acc b => acc * 256 + b.toNat) 0

/-- `zeros(n)` (R10). -/
def zeros (n : Nat) : List Byte := List.replicate n 0

/-- `xor(s, rep(b, len(s)))`: every byte of `s` exclusive-or `b` (R10). -/
def xorEach (b : Byte) (s : List Byte) : List Byte := s.map (· ^^^ b)

/-- `s` cut into `n` consecutive pieces of `size` bytes. -/
def pieces (size : Nat) : Nat → List Byte → List (List Byte)
  | 0, _ => []
  | n + 1, s => s.take size :: pieces size n (s.drop size)

/-- Byte `X[k]` of a buffer. -/
def bufByte {n : Nat} (x : Vector Byte n) (k : Nat) : Byte := x.toList.getD k 0

/-- The word at offset `base(X) + 4j`: bytes `X[4j]` to `X[4j+3]`, the first in
bits 7:0 (R75). -/
def bufWord {n : Nat} (x : Vector Byte n) (j : Nat) : Word32 :=
  (bufByte x (4 * j + 3) ++ bufByte x (4 * j + 2) ++ bufByte x (4 * j + 1) ++ bufByte x (4 * j)).setWidth 32

/-- The buffer after a write of the word at offset `base(X) + 4j` (R75). -/
def bufSetWord {n : Nat} (x : Vector Byte n) (j : Nat) (w : Word32) : Vector Byte n :=
  (((x.setIfInBounds (4 * j) (w.extractLsb' 0 8)).setIfInBounds (4 * j + 1) (w.extractLsb' 8 8)).setIfInBounds
    (4 * j + 2) (w.extractLsb' 16 8)).setIfInBounds (4 * j + 3) (w.extractLsb' 24 8)

/-- A buffer of `n` bytes that holds the byte string `s` and zeros after it. -/
def bufOf (n : Nat) (s : List Byte) : Vector Byte n :=
  ⟨(s.take n ++ List.replicate (n - s.length) 0).toArray, by
    simp only [List.size_toArray, List.length_append, List.length_take, List.length_replicate]; omega⟩

/-- Bits 31:0 of a 64-bit number, the word at the `_LO` offset (R74). -/
def loWord (x : Word64) : Word32 := x.extractLsb' 0 32

/-- Bits 63:32 of a 64-bit number, the word at the `_HI` offset (R74). -/
def hiWord (x : Word64) : Word32 := x.extractLsb' 32 32

/-- `hi || lo` (R9). -/
def joinWords (hi lo : Word32) : Word64 := (hi ++ lo).setWidth 64

end Sys2Proof.Machine
end

