-- ==== Sys2Proof/Config.lean ====
section
/-!
DEFINITION. The constants of the hardware (spec 00_scope.md rule R8). The one
parameter that an implementation chooses, `ALG_AVAIL`, is a field of `State`
that no step changes (assumption 1); here stands only its default.
-/

namespace Sys2Proof.Config

/-- `DIGITS_MIN` (R8). -/
abbrev digitsMin : Nat := 6

/-- `DIGITS_MAX` (R8). -/
abbrev digitsMax : Nat := 10

/-- `KEY_MAX`: the largest secret, in bytes (R8). -/
abbrev keyMax : Nat := 256

/-- `ID_VALUE` (R8, R21). -/
abbrev idValue : Word32 := 0x544F5450

/-- The default of `ALG_AVAIL`: all three variants available (R8). -/
abbrev algAvailDefault : BitVec 3 := 0b111

/-- The reset value of `WINDOW`: the default window (R8, R29). -/
abbrev windowReset : Word32 := 1

/-- The size of the register space in bytes (R8, R20). -/
abbrev regSpaceBytes : Nat := 512

end Sys2Proof.Config
end

