-- ==== Sys2Proof/Machine/State.lean ====
section
/-!
DEFINITION. The state of TOTP-CORE (spec 10_state.md), the state after reset
(R48), and the reasons a step could stop. Everything is plain data. The register
buffers are vectors of bytes: each has one fixed size, so equal contents are
equal data. Beside the hardware's own state stand the parameter `ALG_AVAIL`
(R8, R14) and the environment: what the host, the scheduler and the time port
will do next (R13, R347) and what the bus answered (R71).
-/

namespace Sys2Proof.Machine

/-- The error codes of `STATUS.ERRCODE`; no other code is ever produced (R290). -/
inductive ErrCode where
  /-- 0x00, no error. -/
  | none
  /-- 0x01, raised by `CONFIGURE`. -/
  | unsupportedAlgorithm
  /-- 0x02, raised by `CONFIGURE`. -/
  | invalidConfiguration
  /-- 0x03, raised by each of the nine compute commands. -/
  | noConfiguration
  /-- 0x04, raised by every word that is no command. -/
  | illegalCommand
  deriving DecidableEq, Repr

/-- The three HMAC variants, a closed set (R105). -/
inductive HashAlg where
  | sha1
  | sha256
  | sha512
  deriving DecidableEq, Repr

/-- The bits of `STATUS` that are storage (R24). `CFG_VALID` is the bit
`ActiveConfig.valid` (R43) and stands there only. -/
structure Status where
  /-- `BUSY`: a command is accepted and the engine has not completed it. -/
  busy : Bool
  /-- `DONE`: the last command completed without error. -/
  done : Bool
  /-- `ERR`: the last command ended with an error. -/
  err : Bool
  /-- `MATCH`: the result of the last `VERIFY`, `VERIFYAT` or `CTEQ`. -/
  matched : Bool
  /-- `ERRCODE`. -/
  errCode : ErrCode
  deriving DecidableEq, Repr

/-- The active configuration `A`, hidden state (R43). -/
structure ActiveConfig where
  /-- `A.VALID`, visible as `STATUS.CFG_VALID`. -/
  valid : Bool
  /-- `A.DIGITS`. -/
  digits : Word32
  /-- `A.ALG`, resolved when the configuration is built (R130). -/
  alg : HashAlg
  /-- `A.PERIOD`. -/
  period : Word32
  /-- `A.KEYLEN`. -/
  keylen : Word32
  /-- `A.KEY[0..256)`, the private copy of the secret. -/
  key : Vector Byte 256
  deriving DecidableEq, Repr

/-- A bus transaction of the host: one 32-bit read or write at an offset (R71). -/
inductive BusOp where
  | read (off : Nat)
  | write (off : Nat) (data : Word32)
  deriving DecidableEq, Repr

/-- One turn of the environment (R13, R347): a transaction of the host, with the
value that the time port shows while it is performed (R41); a turn given to the
engine; or a reset (R330). -/
inductive Event where
  | bus (op : BusOp) (time : Word64)
  | engine
  | reset
  deriving DecidableEq, Repr

/-- What the bus answers to a transaction (R71): `OK` with the data of a read,
`OK` to a write, or `ERR`, which carries no data. -/
inductive Reply where
  | data (w : Word32)
  | ack
  | busErr
  deriving DecidableEq, Repr

/-- The environment of one instance (R13): the turns still to come, the next one
first, and the answers the host has received, the latest first. No hardware
state: no rule of the hardware reads it. -/
structure Env where
  script : List Event
  replies : List Reply
  deriving DecidableEq, Repr

/-- No step of this machine faults: every command completes in one engine step
(R103), an error is reported in `STATUS` (R296), and a refused bus access is an
answer of the bus that leaves the machine running (R71, R298). The type has no
constructor. -/
inductive Fault where
  deriving DecidableEq, Repr

/-- Why a step is refused. -/
inductive Refusal where
  /-- Raised by an arm of `exec` whose command has no meaning yet. Safe: the
  model stops. Every command of this model has its meaning, so nothing raises it. -/
  | notModelled (mnemonic : String)
  deriving DecidableEq, Repr

/-- The state of one instance. -/
structure State where
  /-- `STATUS` (R24), but for `CFG_VALID`. -/
  status : Status
  /-- `CFG_DIGITS` (R25). -/
  cfgDigits : Word32
  /-- `CFG_ALG` (R26). -/
  cfgAlg : Word32
  /-- `CFG_PERIOD` (R27). -/
  cfgPeriod : Word32
  /-- `CFG_KEYLEN` (R28). -/
  cfgKeylen : Word32
  /-- `WINDOW` (R29). -/
  window : Word32
  /-- `CAND_LEN` (R30). -/
  candLen : Word32
  /-- `TS`, that is `TS_HI || TS_LO` (R31). -/
  ts : Word64
  /-- `CTR`, that is `CTR_HI || CTR_LO` (R32). -/
  ctr : Word64
  /-- `TUSED`, that is `TUSED_HI || TUSED_LO` (R33). -/
  tused : Word64
  /-- `CAND[0..16)` (R34). -/
  cand : Vector Byte 16
  /-- `CODE[0..16)` (R35). -/
  code : Vector Byte 16
  /-- `KEY[0..256)` (R36). -/
  key : Vector Byte 256
  /-- `DIGEST[0..64)` (R37). -/
  digest : Vector Byte 64
  /-- `BINARY` (R38). -/
  binary : Word32
  /-- `CMD_LATCH`, hidden (R42). -/
  cmdLatch : Word32
  /-- `T_SAMPLE`, hidden (R42). -/
  tSample : Word64
  /-- The active configuration `A`, hidden but for `A.VALID` (R43). -/
  active : ActiveConfig
  /-- The parameter `ALG_AVAIL` of this instance (R8, R22). No step changes it. -/
  algAvail : BitVec 3
  /-- The environment of this instance (R13, R347). -/
  env : Env
  deriving DecidableEq, Repr

/-- Whose turn a step is: the engine's, in the state it starts from, or one that
is over with the state it leaves. -/
inductive Turn where
  | engine (s : State)
  | settled (s : State)
  deriving DecidableEq, Repr

/-- `STATUS` after reset: all bits 0 (R48). -/
def Status.reset : Status :=
  { busy := false, done := false, err := false, matched := false, errCode := .none }

/-- The active configuration after reset: none (R48). Algorithm code 0 is SHA1. -/
def ActiveConfig.reset : ActiveConfig :=
  { valid := false, digits := 0, alg := .sha1, period := 0, keylen := 0,
    key := Vector.replicate 256 0 }

/-- The machine right after reset (R48), with the default `ALG_AVAIL` and an
environment that has nothing to do. -/
def State.reset : State :=
  { status := Status.reset
    cfgDigits := 0
    cfgAlg := 0
    cfgPeriod := 0
    cfgKeylen := 0
    window := Config.windowReset
    candLen := 0
    ts := 0
    ctr := 0
    tused := 0
    cand := Vector.replicate 16 0
    code := Vector.replicate 16 0
    key := Vector.replicate 256 0
    digest := Vector.replicate 64 0
    binary := 0
    cmdLatch := 0
    tSample := 0
    active := ActiveConfig.reset
    algAvail := Config.algAvailDefault
    env := { script := [], replies := [] } }

end Sys2Proof.Machine
end

