-- ==== Sys2Proof/Machine/Flags.lean ====
section
/-!
DEFINITION. The words in which flags are read: `STATUS` (spec 10_state.md rule
R24), `CAP` (R22), the numbers of the error codes (60_exceptions.md rule R290)
and of the algorithms (30_encoding.md rule R105). The hardware has no arithmetic
flags (R44).
-/

namespace Sys2Proof.Machine

/-- The number of an error code (R290). -/
def errNumber : ErrCode → BitVec 8
  | .none => 0x00
  | .unsupportedAlgorithm => 0x01
  | .invalidConfiguration => 0x02
  | .noConfiguration => 0x03
  | .illegalCommand => 0x04

/-- The word `STATUS`, from bit 31 down: 31:16 zero, `ERRCODE`, 7:5 zero,
`MATCH`, `CFG_VALID`, `ERR`, `DONE`, `BUSY` (R24). -/
def statusWord (s : State) : Word32 :=
  (0#16 ++ errNumber s.status.errCode ++ 0#3 ++ BitVec.ofBool s.status.matched ++
    BitVec.ofBool s.active.valid ++ BitVec.ofBool s.status.err ++ BitVec.ofBool s.status.done ++
    BitVec.ofBool s.status.busy).setWidth 32

/-- The word `CAP`, from bit 31 down: `KEY_MAX`, 15:3 zero, `ALG_AVAIL` (R22). -/
def capWord (s : State) : Word32 := (BitVec.ofNat 16 Config.keyMax ++ 0#13 ++ s.algAvail).setWidth 32

/-- The algorithm code (R105). -/
def algCode : HashAlg → Nat
  | .sha1 => 0
  | .sha256 => 1
  | .sha512 => 2

/-- The algorithm of a 32-bit code; a code of 3 or more names none (R105). -/
def algOfCode (code : Word32) : Option HashAlg :=
  match code.toNat with
  | 0 => some .sha1
  | 1 => some .sha256
  | 2 => some .sha512
  | _ => none

/-- Bit `a` of `ALG_AVAIL` says that the algorithm with code `a` is available (R8). -/
def algAvailable (avail : BitVec 3) (a : HashAlg) : Bool := avail.getLsbD (algCode a)

/-- `B(alg)`: the block of the hash in bytes (R105). -/
def blockBytes : HashAlg → Nat
  | .sha1 => 64
  | .sha256 => 64
  | .sha512 => 128

/-- `L(alg)`: the output of the hash in bytes (R105). -/
def digestBytes : HashAlg → Nat
  | .sha1 => 20
  | .sha256 => 32
  | .sha512 => 64

end Sys2Proof.Machine
end

