-- ==== Sys2Proof/Machine/Operands.lean ====
section
/-!
DEFINITION. The operand forms of the commands (spec 30_encoding.md rule R106): a
command has no immediate, its byte-string operands are beginnings of buffers and
its numbers are whole registers taken as unsigned integers.
-/

namespace Sys2Proof.Machine

/-- The secret of a configuration: `A.KEY[0..A.KEYLEN)` (R43, R106). -/
def secretOf (a : ActiveConfig) : List Byte := a.key.toList.take a.keylen.toNat

/-- The digest operand: `DIGEST[0..L(A.ALG))` (R106). -/
def digestOperand (s : State) : List Byte := s.digest.toList.take (digestBytes s.active.alg)

/-- The candidate operand: `CAND[0..A.DIGITS)` (R106). -/
def candOperand (s : State) : List Byte := s.cand.toList.take s.active.digits.toNat

/-- The code operand: `CODE[0..A.DIGITS)` (R106). -/
def codeOperand (s : State) : List Byte := s.code.toList.take s.active.digits.toNat

end Sys2Proof.Machine
end

