-- ==== Sys2Proof/Machine/Ops.lean ====
section
/-!
DEFINITION. The named operations over the state that the commands, the bus and
the engine share: acceptance of a command (spec 30_encoding.md rule R102), the
frame of the engine step (R103), raising an error, which is this hardware's
taking of an exception (60_exceptions.md rule R296), and reset (70_reset_and_
hazards.md rule R330). There is no return from an exception: an accepted command
clears the error (R297), which is part of `accept`.
-/

namespace Sys2Proof.Machine

/-- `raise Err(code)`: the command ends with these three writes and no other (R296). -/
def raiseErr (c : ErrCode) (s : State) : State :=
  { s with status := { s.status with busy := false, err := true, errCode := c } }

/-- Normal completion of a command: `BUSY <- 0`, `DONE <- 1` (R103). -/
def complete (s : State) : State :=
  { s with status := { s.status with busy := false, done := true } }

/-- The frame of a compute command: `NO_CONFIGURATION` when no configuration is
active, and otherwise the writes of the command and its completion (R103). -/
def computeFrame (effect : State → State) (s : State) : Host.Outcome State Fault Refusal :=
  if s.active.valid then .next (complete (effect s)) else .next (raiseErr .noConfiguration s)

/-- `STATUS` when a command has just been accepted (R102). -/
def acceptedStatus : Status :=
  { busy := true, done := false, err := false, matched := false, errCode := .none }

/-- Acceptance of the command word `data` while the time port shows `time` (R102). -/
def accept (data : Word32) (time : Word64) (s : State) : State :=
  { s with cmdLatch := data, tSample := time, status := acceptedStatus }

/-- Every state element of rule R48 at its reset value: the effect of `CLEAR`
(R136) and of a reset (R330). The parameter and the environment are no such
elements and stay. -/
def hwReset (s : State) : State :=
  { State.reset with algAvail := s.algAvail, env := s.env }

/-- The environment's script replaced. -/
def withScript (script : List Event) (s : State) : State :=
  { s with env := { s.env with script := script } }

/-- One more answer received by the host. -/
def withReply (r : Reply) (s : State) : State :=
  { s with env := { s.env with replies := r :: s.env.replies } }

/-- `DIGEST[0..L) <- h; DIGEST[L..64) <- zeros(64 - L)` (R197, R231, R261). -/
def setDigest (h : List Byte) (s : State) : State := { s with digest := bufOf 64 h }

/-- `BINARY <- b; CODE[0..d) <- c; CODE[d..16) <- zeros(16 - d)` (R216, R231, R261). -/
def setCode (b : Word32) (c : List Byte) (s : State) : State := { s with binary := b, code := bufOf 16 c }

/-- `TUSED <- t` (R33). -/
def setTused (t : Word64) (s : State) : State := { s with tused := t }

/-- `CTR <- c` (R32). -/
def setCtr (c : Word64) (s : State) : State := { s with ctr := c }

/-- `STATUS.MATCH <- b` (R44). -/
def setMatched (b : Bool) (s : State) : State := { s with status := { s.status with matched := b } }

/-- The instruction whose bits are `w` placed where the engine takes its next
one: latched as an accepted command (R102), with the next turn the engine's. The
time sample stays as it is (assumption 5). -/
def placeCommand (nbits w : Nat) (s : State) : State :=
  withScript (.engine :: s.env.script)
    { s with cmdLatch := tableWord nbits w, status := acceptedStatus }

end Sys2Proof.Machine
end

