-- ==== Sys2Proof/Machine/RegMap.lean ====
section
/-!
DEFINITION. The register space of 512 bytes: which register stands at which
offset, how it may be accessed, and the word it reads as (spec 10_state.md rules
R20 to R40, 20_memory.md rule R75).
-/

namespace Sys2Proof.Machine

/-- The registers of the map (R20), the words of a buffer numbered from 0. -/
inductive Reg where
  | id | cap | cmd | status
  | cfgDigits | cfgAlg | cfgPeriod | cfgKeylen
  | window | candLen
  | tsLo | tsHi | ctrLo | ctrHi
  | timeLo | timeHi
  | tusedLo | tusedHi
  | binary
  | cand (j : Nat) | code (j : Nat) | digest (j : Nat) | key (j : Nat)
  deriving DecidableEq, Repr

/-- The register at an offset that is a multiple of 4 (R20). -/
def regAtWord (off : Nat) : Option Reg :=
  match off with
  | 0x000 => some .id
  | 0x004 => some .cap
  | 0x008 => some .cmd
  | 0x00C => some .status
  | 0x010 => some .cfgDigits
  | 0x014 => some .cfgAlg
  | 0x018 => some .cfgPeriod
  | 0x01C => some .cfgKeylen
  | 0x020 => some .window
  | 0x024 => some .candLen
  | 0x028 => some .tsLo
  | 0x02C => some .tsHi
  | 0x030 => some .ctrLo
  | 0x034 => some .ctrHi
  | 0x038 => some .timeLo
  | 0x03C => some .timeHi
  | 0x040 => some .tusedLo
  | 0x044 => some .tusedHi
  | 0x048 => some .binary
  | _ =>
    if 0x050 ≤ off ∧ off ≤ 0x05C then some (.cand ((off - 0x050) / 4))
    else if 0x060 ≤ off ∧ off ≤ 0x06C then some (.code ((off - 0x060) / 4))
    else if 0x080 ≤ off ∧ off ≤ 0x0BC then some (.digest ((off - 0x080) / 4))
    else if 0x100 ≤ off ∧ off ≤ 0x1FC then some (.key ((off - 0x100) / 4))
    else none

/-- The register at an offset: none where it is misaligned, outside the space or
in a hole of the map (R40, R77). -/
def regAt (off : Nat) : Option Reg :=
  if off % 4 = 0 ∧ off < Config.regSpaceBytes then regAtWord off else none

/-- The five registers that may be read while a command is in progress (R78). -/
def readableWhileBusy : Reg → Bool
  | .id | .cap | .status | .timeLo | .timeHi => true
  | _ => false

/-- The word a register reads as, while the time port shows `time` (R72). A
write-only register reads as 0 (R79). -/
def regValue (r : Reg) (time : Word64) (s : State) : Word32 :=
  match r with
  | .id => Config.idValue
  | .cap => capWord s
  | .cmd => 0
  | .status => statusWord s
  | .cfgDigits => s.cfgDigits
  | .cfgAlg => s.cfgAlg
  | .cfgPeriod => s.cfgPeriod
  | .cfgKeylen => s.cfgKeylen
  | .window => s.window
  | .candLen => s.candLen
  | .tsLo => loWord s.ts
  | .tsHi => hiWord s.ts
  | .ctrLo => loWord s.ctr
  | .ctrHi => hiWord s.ctr
  | .timeLo => loWord time
  | .timeHi => hiWord time
  | .tusedLo => loWord s.tused
  | .tusedHi => hiWord s.tused
  | .binary => s.binary
  | .cand j => bufWord s.cand j
  | .code j => bufWord s.code j
  | .digest j => bufWord s.digest j
  | .key _ => 0

/-- The effect of a write to a register, the time port showing `time`: none where
the register is read-only (R73). A write to `CMD` accepts a command (R102). -/
def regStore (r : Reg) (data : Word32) (time : Word64) (s : State) : Option State :=
  match r with
  | .cmd => some (accept data time s)
  | .cfgDigits => some { s with cfgDigits := data }
  | .cfgAlg => some { s with cfgAlg := data }
  | .cfgPeriod => some { s with cfgPeriod := data }
  | .cfgKeylen => some { s with cfgKeylen := data }
  | .window => some { s with window := data }
  | .candLen => some { s with candLen := data }
  | .tsLo => some { s with ts := joinWords (hiWord s.ts) data }
  | .tsHi => some { s with ts := joinWords data (loWord s.ts) }
  | .ctrLo => some { s with ctr := joinWords (hiWord s.ctr) data }
  | .ctrHi => some { s with ctr := joinWords data (loWord s.ctr) }
  | .cand j => some { s with cand := bufSetWord s.cand j data }
  | .key j => some { s with key := bufSetWord s.key j data }
  | .id | .cap | .status | .timeLo | .timeHi | .tusedLo | .tusedHi | .binary | .code _ | .digest _ => none

end Sys2Proof.Machine
end

