-- ==== Sys2Proof/Machine/Bus.lean ====
section
/-!
DEFINITION. The transactions of the register bus, spec 20_memory.md rules R71 to
R80, and whose turn a step is (00_scope.md rule R13, 70_reset_and_hazards.md rule
R347).
-/

namespace Sys2Proof.Machine

/-- `RegRead(off)`, while the time port shows `time` (R72). A read changes no state. -/
def regRead (off : Nat) (time : Word64) (s : State) : Reply :=
  match regAt off with
  | none => .busErr
  | some r => if s.status.busy && !readableWhileBusy r then .busErr else .data (regValue r time s)

/-- `RegWrite(off, data)`, while the time port shows `time`: the state after it and the answer (R73). -/
def regWrite (off : Nat) (data : Word32) (time : Word64) (s : State) : State × Reply :=
  match regAt off with
  | none => (s, .busErr)
  | some r =>
    if s.status.busy then (s, .busErr)
    else match regStore r data time s with
      | none => (s, .busErr)
      | some t => (t, .ack)

/-- One transaction of the host, its answer recorded (R71). -/
def busStep (op : BusOp) (time : Word64) (s : State) : State :=
  match op with
  | .read off => withReply (regRead off time s) s
  | .write off data => withReply (regWrite off data time s).2 (regWrite off data time s).1

/-- The engine's turn where it has a step, that is while `BUSY = 1`; else nothing
happens (R13, R103, R347). -/
def engineTurn (s : State) : Turn := if s.status.busy then .engine s else .settled s

/-- Whose turn it is: the environment's next one, and the engine's when the
environment has none left, so that a command in progress always completes (R103). -/
def nextTurn (s : State) : Turn :=
  match s.env.script with
  | [] => engineTurn s
  | .engine :: rest => engineTurn (withScript rest s)
  | .bus op time :: rest => .settled (busStep op time (withScript rest s))
  | .reset :: rest => .settled (hwReset (withScript rest s))

end Sys2Proof.Machine
end

