-- ==== Sys2Proof/Machine/Compare.lean ====
section
/-!
DEFINITION. The constant-time equality comparator and the command `CTEQ`, spec
46_compare.md.
-/

namespace Sys2Proof.Machine

/-- What a comparison holds: the accumulator and how many byte pairs it has
processed, which rule R251 fixes and no register shows. -/
structure Comparison where
  acc : Byte
  pairs : Nat
  deriving DecidableEq, Repr

/-- The comparator after the byte pairs 0 to `n - 1` (R250): every pair is
processed, whatever the bytes are (R251). -/
def compareBytes (a b : List Byte) : Nat → Comparison
  | 0 => { acc := 0x00, pairs := 0 }
  | n + 1 =>
    let c := compareBytes a b n
    { acc := c.acc ||| (a.getD n 0 ^^^ b.getD n 0), pairs := c.pairs + 1 }

/-- `ct_eq(a, b, n)` (R250). -/
def ctEq (a b : List Byte) (n : Nat) : Bool := (compareBytes a b n).acc == 0x00

/-- The shape check: the full 32-bit lengths are equal (R252). -/
def shapeOk (candLen digits : Word32) : Bool := candLen == digits

/-- The result of `CTEQ` (R253). -/
def cteqResult (s : State) : Bool :=
  shapeOk s.candLen s.active.digits && ctEq (candOperand s) (codeOperand s) s.active.digits.toNat

/-- `CTEQ` (R253). -/
def execCteq (s : State) : Host.Outcome State Fault Refusal := computeFrame (fun u => setMatched (cteqResult u) u) s

end Sys2Proof.Machine
end

