-- ==== Sys2Proof/Machine/Configuration.lean ====
section
/-!
DEFINITION. The configuration commands `CONFIGURE` and `CLEAR`, spec
40_config.md.
-/

namespace Sys2Proof.Machine

/-- The algorithm that a code names, if it names one that this instance has
(R132, check 1). -/
def resolveAlg (avail : BitVec 3) (code : Word32) : Option HashAlg :=
  match algOfCode code with
  | some a => if algAvailable avail a then some a else none
  | none => none

/-- `validate`: the first check that fails decides the error; with none failing
the answer is the resolved algorithm (R130, R132). -/
def validate (avail : BitVec 3) (alg digits period keylen : Word32) : Except ErrCode HashAlg :=
  match resolveAlg avail alg with
  | none => .error .unsupportedAlgorithm
  | some a =>
    if digits.toNat < Config.digitsMin ∨ Config.digitsMax < digits.toNat then .error .invalidConfiguration
    else if period = 0 then .error .invalidConfiguration
    else if keylen = 0 ∨ Config.keyMax < keylen.toNat then .error .invalidConfiguration
    else .ok a

/-- The configuration that `commit` builds from the staging registers and the
`KEY` buffer (R133). -/
def stagedConfig (a : HashAlg) (s : State) : ActiveConfig :=
  { valid := true, digits := s.cfgDigits, alg := a, period := s.cfgPeriod, keylen := s.cfgKeylen,
    key := bufOf 256 (s.key.toList.take s.cfgKeylen.toNat) }

/-- `commit` (R133). -/
def commit (a : HashAlg) (s : State) : State := { s with active := stagedConfig a s }

/-- `CONFIGURE` (R131, R134). -/
def execConfigure (s : State) : Host.Outcome State Fault Refusal :=
  match validate s.algAvail s.cfgAlg s.cfgDigits s.cfgPeriod s.cfgKeylen with
  | .error c => .next (raiseErr c s)
  | .ok a => .next (complete (commit a s))

/-- `CLEAR` (R136). -/
def execClear (s : State) : Host.Outcome State Fault Refusal := .next (complete (hwReset s))

end Sys2Proof.Machine
end

