-- ==== Sys2Proof/Machine/Counter.lean ====
section
/-!
DEFINITION. Counter-from-timestamp arithmetic and the command `TS2CTR`, spec
45_counter.md. A valid configuration has a period other than 0 (R43), so the
division is never by zero where a run reaches it.
-/

namespace Sys2Proof.Machine

/-- `counter(T, P) = floor(T / P)` (R240). -/
def counterAt (t p : Nat) : Nat := t / p

/-- `T_i = T + i * P`, an exact integer (R244). -/
def windowTime (t : Nat) (i : Int) (p : Nat) : Int := (t : Int) + i * (p : Int)

/-- The largest timestamp, 2^64 - 1 (R244). -/
def maxTime : Int := 2 ^ 64 - 1

/-- Whether a window timestamp is in range; one that is not is skipped (R244). -/
def inRange (x : Int) : Bool := decide (0 ≤ x) && decide (x ≤ maxTime)

/-- `counter(T, A.PERIOD)` in the width of `CTR` (R242). -/
def counterWord (t : Word64) (a : ActiveConfig) : Word64 :=
  BitVec.ofNat 64 (counterAt t.toNat a.period.toNat)

/-- The writes of `TS2CTR` for the timestamp `t`: `TUSED` and `CTR` (R242). -/
def counterEffect (t : Word64) (s : State) : State := setCtr (counterWord t s.active) (setTused t s)

/-- `TS2CTR` (R242). -/
def execTs2ctr (s : State) : Host.Outcome State Fault Refusal := computeFrame (fun u => counterEffect u.ts u) s

end Sys2Proof.Machine
end

