-- ==== Sys2Proof/Machine/Sha.lean ====
section
/-!
DEFINITION. The hash functions SHA-1, SHA-256 and SHA-512, spec 41_sha.md rules
R150 to R170: pure functions from byte strings to byte strings that read and
write no state. Word additions are modulo `2^w`, as `BitVec` addition is.
-/

namespace Sys2Proof.Machine

variable {w : Nat}

/-! Padding and parsing (R151 to R153). -/

/-- `pad64(M)` (R151). -/
def pad64 (m : List Byte) : List Byte :=
  m ++ [0x80] ++ zeros ((119 - m.length % 64) % 64) ++ beBytes 8 (8 * m.length)

/-- `pad128(M)` (R152). -/
def pad128 (m : List Byte) : List Byte :=
  m ++ [0x80] ++ zeros ((239 - m.length % 128) % 128) ++ beBytes 16 (8 * m.length)

/-- The consecutive blocks of `size` bytes of a padded message (R153). -/
def blocksOf (size : Nat) (p : List Byte) : List (List Byte) := pieces size (p.length / size) p

/-- The sixteen `w`-bit words of a block, each read big-endian (R153). -/
def blockWords (w : Nat) (block : List Byte) : List (BitVec w) :=
  (pieces (w / 8) 16 block).map fun s => BitVec.ofNat w (be s)

/-- A hash value written out big-endian, word by word (R153). -/
def wordsOut (ws : List (BitVec w)) : List Byte := ws.flatMap fun x => beBytes (w / 8) x.toNat

/-- A message schedule extended by `n` words, each made by `next` from the words
before it. The list is kept latest word first, so `W_(t-k)` is its element `k-1`. -/
def extendSchedule (next : List (BitVec w) → BitVec w) : Nat → List (BitVec w) → List (BitVec w)
  | 0, ws => ws
  | n + 1, ws => extendSchedule next n (next ws :: ws)

/-- `W_(t-k)`, where the list holds `W_(t-1)`, `W_(t-2)`, ... . -/
def back (ws : List (BitVec w)) (k : Nat) : BitVec w := ws.getD (k - 1) 0

/-! The functions that SHA-256 and SHA-512 write alike, and SHA-1 too (R154, R160, R167). -/

/-- `Ch(x, y, z)`. -/
def ch (x y z : BitVec w) : BitVec w := (x &&& y) ^^^ (~~~x &&& z)

/-- `Parity(x, y, z)`. -/
def parity (x y z : BitVec w) : BitVec w := x ^^^ y ^^^ z

/-- `Maj(x, y, z)`. -/
def maj (x y z : BitVec w) : BitVec w := (x &&& y) ^^^ (x &&& z) ^^^ (y &&& z)

/-! SHA-1. -/

/-- The five words of a SHA-1 hash value, or the working variables `a` to `e` (R156). -/
structure Sha1Words where
  a : Word32
  b : Word32
  c : Word32
  d : Word32
  e : Word32
  deriving DecidableEq, Repr

/-- `f_t(x, y, z)` (R154). -/
def sha1F (t : Nat) (x y z : Word32) : Word32 :=
  if t < 20 then ch x y z
  else if t < 40 then parity x y z
  else if t < 60 then maj x y z
  else parity x y z

/-- `K_t` (R154). -/
def sha1K (t : Nat) : Word32 :=
  if t < 20 then 0x5A827999
  else if t < 40 then 0x6ED9EBA1
  else if t < 60 then 0x8F1BBCDC
  else 0xCA62C1D6

/-- The initial hash value of SHA-1 (R155). -/
def sha1Init : Sha1Words :=
  { a := 0x67452301, b := 0xEFCDAB89, c := 0x98BADCFE, d := 0x10325476, e := 0xC3D2E1F0 }

/-- `W_t` for `t` in 16 to 79 (R156). -/
def sha1NextWord (ws : List Word32) : Word32 := rotl (back ws 3 ^^^ back ws 8 ^^^ back ws 14 ^^^ back ws 16) 1

/-- The words `W_0` to `W_79` of a block (R156). -/
def sha1Schedule (m : List Word32) : List Word32 := (extendSchedule sha1NextWord 64 m.reverse).reverse

/-- One round: the new values of `a` to `e` (R156). -/
def sha1Round (t : Nat) (wt : Word32) (v : Sha1Words) : Sha1Words :=
  { a := rotl v.a 5 + sha1F t v.b v.c v.d + v.e + sha1K t + wt, b := v.a, c := rotl v.b 30, d := v.c, e := v.d }

/-- The rounds from round `t` on, one for each word left (R156). -/
def sha1Rounds : Nat → List Word32 → Sha1Words → Sha1Words
  | _, [], v => v
  | t, wt :: ws, v => sha1Rounds (t + 1) ws (sha1Round t wt v)

/-- The hash value after one block (R156). -/
def sha1Block (h : Sha1Words) (block : List Byte) : Sha1Words :=
  let v := sha1Rounds 0 (sha1Schedule (blockWords 32 block)) h
  { a := h.a + v.a, b := h.b + v.b, c := h.c + v.c, d := h.d + v.d, e := h.e + v.e }

/-- `SHA1(M)`, 20 bytes (R156). -/
def sha1 (m : List Byte) : List Byte :=
  let h := (blocksOf 64 (pad64 m)).foldl sha1Block sha1Init
  wordsOut [h.a, h.b, h.c, h.d, h.e]

/-! SHA-256 and SHA-512: one round and block structure over two sets of functions
and constants that are kept apart (R163, R170). -/

/-- The eight words of a hash value, or the working variables `a` to `h`. -/
structure Sha2Words (w : Nat) where
  (a b c d e f g h : BitVec w)
  deriving DecidableEq, Repr

/-- The functions and constants in which the two differ. -/
structure Sha2Fns (w : Nat) where
  (bsig0 bsig1 ssig0 ssig1 : BitVec w → BitVec w)
  roundK : List (BitVec w)
  init : Sha2Words w

/-- The form of `BSIG0` and `BSIG1`: three rotations (R160, R167). -/
def bigSigma (r s t : Nat) (x : BitVec w) : BitVec w := rotr x r ^^^ rotr x s ^^^ rotr x t

/-- The form of `SSIG0` and `SSIG1`: two rotations and a shift (R160, R167). -/
def smallSigma (r s n : Nat) (x : BitVec w) : BitVec w := rotr x r ^^^ rotr x s ^^^ (x >>> n)

/-- The words of one row of a constant table of 41_sha.md: `n` words of `w` bits,
written as one number with the leftmost word on top. -/
def rowWords (w n row : Nat) : List (BitVec w) :=
  (List.range n).map fun k => BitVec.ofNat w (row >>> (w * (n - 1 - k)))

/-- `H0` to `H7` from the words of their table (R161, R168). -/
def initOf (ws : List (BitVec w)) : Sha2Words w :=
  let word (j : Nat) := ws.getD j 0
  { a := word 0, b := word 1, c := word 2, d := word 3, e := word 4, f := word 5, g := word 6, h := word 7 }

/-- `W_t` for `t` from 16 on (R163, R170). -/
def sha2NextWord (p : Sha2Fns w) (ws : List (BitVec w)) : BitVec w :=
  p.ssig1 (back ws 2) + back ws 7 + p.ssig0 (back ws 15) + back ws 16

/-- The words of a block, as many as there are round constants (R163, R170). -/
def sha2Schedule (p : Sha2Fns w) (m : List (BitVec w)) : List (BitVec w) :=
  (extendSchedule (sha2NextWord p) (p.roundK.length - 16) m.reverse).reverse

/-- One round with `K_t` and `W_t` (R163, R170). -/
def sha2Round (p : Sha2Fns w) (kt wt : BitVec w) (v : Sha2Words w) : Sha2Words w :=
  let t1 := v.h + p.bsig1 v.e + ch v.e v.f v.g + kt + wt
  let t2 := p.bsig0 v.a + maj v.a v.b v.c
  { a := t1 + t2, b := v.a, c := v.b, d := v.c, e := v.d + t1, f := v.e, g := v.f, h := v.g }

/-- The rounds, one for each pair of a constant and a word (R163, R170). -/
def sha2Rounds (p : Sha2Fns w) : List (BitVec w) → List (BitVec w) → Sha2Words w → Sha2Words w
  | kt :: ks, wt :: ws, v => sha2Rounds p ks ws (sha2Round p kt wt v)
  | _, _, v => v

/-- The hash value after one block (R163, R170). -/
def sha2Block (p : Sha2Fns w) (h : Sha2Words w) (block : List Byte) : Sha2Words w :=
  let v := sha2Rounds p p.roundK (sha2Schedule p (blockWords w block)) h
  { a := h.a + v.a, b := h.b + v.b, c := h.c + v.c, d := h.d + v.d,
    e := h.e + v.e, f := h.f + v.f, g := h.g + v.g, h := h.h + v.h }

/-- The digest of a padded message (R163, R170). -/
def sha2Digest (p : Sha2Fns w) (padded : List Byte) : List Byte :=
  let h := (blocksOf (16 * (w / 8)) padded).foldl (sha2Block p) p.init
  wordsOut [h.a, h.b, h.c, h.d, h.e, h.f, h.g, h.h]

/-- The round constants of SHA-256, the rows of the table of R162. -/
def sha256K : List (BitVec 32) :=
  List.flatMap (rowWords 32 8)
    [ 0x428a2f98_71374491_b5c0fbcf_e9b5dba5_3956c25b_59f111f1_923f82a4_ab1c5ed5,
      0xd807aa98_12835b01_243185be_550c7dc3_72be5d74_80deb1fe_9bdc06a7_c19bf174,
      0xe49b69c1_efbe4786_0fc19dc6_240ca1cc_2de92c6f_4a7484aa_5cb0a9dc_76f988da,
      0x983e5152_a831c66d_b00327c8_bf597fc7_c6e00bf3_d5a79147_06ca6351_14292967,
      0x27b70a85_2e1b2138_4d2c6dfc_53380d13_650a7354_766a0abb_81c2c92e_92722c85,
      0xa2bfe8a1_a81a664b_c24b8b70_c76c51a3_d192e819_d6990624_f40e3585_106aa070,
      0x19a4c116_1e376c08_2748774c_34b0bcb5_391c0cb3_4ed8aa4a_5b9cca4f_682e6ff3,
      0x748f82ee_78a5636f_84c87814_8cc70208_90befffa_a4506ceb_bef9a3f7_c67178f2 ]

/-- The functions and constants of SHA-256 (R160 to R162). -/
def sha256Fns : Sha2Fns 32 :=
  { bsig0 := bigSigma 2 13 22, bsig1 := bigSigma 6 11 25
    ssig0 := smallSigma 7 18 3, ssig1 := smallSigma 17 19 10
    roundK := sha256K
    init := initOf (rowWords 32 4 0x6a09e667_bb67ae85_3c6ef372_a54ff53a ++
      rowWords 32 4 0x510e527f_9b05688c_1f83d9ab_5be0cd19) }

/-- `SHA256(M)`, 32 bytes (R163). -/
def sha256 (m : List Byte) : List Byte := sha2Digest sha256Fns (pad64 m)

/-- The round constants of SHA-512, the rows 1 to 10 of the table of R169. -/
def sha512KUpper : List (BitVec 64) :=
  List.flatMap (rowWords 64 4)
    [ 0x428a2f98d728ae22_7137449123ef65cd_b5c0fbcfec4d3b2f_e9b5dba58189dbbc,
      0x3956c25bf348b538_59f111f1b605d019_923f82a4af194f9b_ab1c5ed5da6d8118,
      0xd807aa98a3030242_12835b0145706fbe_243185be4ee4b28c_550c7dc3d5ffb4e2,
      0x72be5d74f27b896f_80deb1fe3b1696b1_9bdc06a725c71235_c19bf174cf692694,
      0xe49b69c19ef14ad2_efbe4786384f25e3_0fc19dc68b8cd5b5_240ca1cc77ac9c65,
      0x2de92c6f592b0275_4a7484aa6ea6e483_5cb0a9dcbd41fbd4_76f988da831153b5,
      0x983e5152ee66dfab_a831c66d2db43210_b00327c898fb213f_bf597fc7beef0ee4,
      0xc6e00bf33da88fc2_d5a79147930aa725_06ca6351e003826f_142929670a0e6e70,
      0x27b70a8546d22ffc_2e1b21385c26c926_4d2c6dfc5ac42aed_53380d139d95b3df,
      0x650a73548baf63de_766a0abb3c77b2a8_81c2c92e47edaee6_92722c851482353b ]

/-- The round constants of SHA-512, the rows 11 to 20 of the table of R169. -/
def sha512KLower : List (BitVec 64) :=
  List.flatMap (rowWords 64 4)
    [ 0xa2bfe8a14cf10364_a81a664bbc423001_c24b8b70d0f89791_c76c51a30654be30,
      0xd192e819d6ef5218_d69906245565a910_f40e35855771202a_106aa07032bbd1b8,
      0x19a4c116b8d2d0c8_1e376c085141ab53_2748774cdf8eeb99_34b0bcb5e19b48a8,
      0x391c0cb3c5c95a63_4ed8aa4ae3418acb_5b9cca4f7763e373_682e6ff3d6b2b8a3,
      0x748f82ee5defb2fc_78a5636f43172f60_84c87814a1f0ab72_8cc702081a6439ec,
      0x90befffa23631e28_a4506cebde82bde9_bef9a3f7b2c67915_c67178f2e372532b,
      0xca273eceea26619c_d186b8c721c0c207_eada7dd6cde0eb1e_f57d4f7fee6ed178,
      0x06f067aa72176fba_0a637dc5a2c898a6_113f9804bef90dae_1b710b35131c471b,
      0x28db77f523047d84_32caab7b40c72493_3c9ebe0a15c9bebc_431d67c49c100d4c,
      0x4cc5d4becb3e42b6_597f299cfc657e2a_5fcb6fab3ad6faec_6c44198c4a475817 ]

/-- The round constants of SHA-512 (R169). -/
def sha512K : List (BitVec 64) := sha512KUpper ++ sha512KLower

/-- The functions and constants of SHA-512 (R167 to R169). -/
def sha512Fns : Sha2Fns 64 :=
  { bsig0 := bigSigma 28 34 39, bsig1 := bigSigma 14 18 41
    ssig0 := smallSigma 1 8 7, ssig1 := smallSigma 19 61 6
    roundK := sha512K
    init := initOf (rowWords 64 4 0x6a09e667f3bcc908_bb67ae8584caa73b_3c6ef372fe94f82b_a54ff53a5f1d36f1 ++
      rowWords 64 4 0x510e527fade682d1_9b05688c2b3e6c1f_1f83d9abfb41bd6b_5be0cd19137e2179) }

/-- `SHA512(M)`, 64 bytes (R170). -/
def sha512 (m : List Byte) : List Byte := sha2Digest sha512Fns (pad128 m)

end Sys2Proof.Machine
end

