-- ==== Sys2Proof/Machine/Hmac.lean ====
section
/-!
DEFINITION. The HMAC engine and the command `HMAC`, spec 42_hmac.md.
-/

namespace Sys2Proof.Machine

/-- `Hash(alg, M)` (R176). -/
def hashBytes : HashAlg → List Byte → List Byte
  | .sha1, m => sha1 m
  | .sha256, m => sha256 m
  | .sha512, m => sha512 m

/-- Key preparation: `K0`, exactly one block (R191). -/
def hmacKey (alg : HashAlg) (key : List Byte) : List Byte :=
  if blockBytes alg < key.length then hashBytes alg key ++ zeros (blockBytes alg - digestBytes alg)
  else key ++ zeros (blockBytes alg - key.length)

/-- The inner hash (R192). -/
def hmacInner (alg : HashAlg) (key msg : List Byte) : List Byte :=
  hashBytes alg (xorEach 0x36 (hmacKey alg key) ++ msg)

/-- `HMAC(alg, key, msg)`: the outer hash (R190, R193). -/
def hmac (alg : HashAlg) (key msg : List Byte) : List Byte :=
  hashBytes alg (xorEach 0x5c (hmacKey alg key) ++ hmacInner alg key msg)

/-- The message of a counter: `BE_8(c)` (R194). -/
def counterMessage (c : Nat) : List Byte := beBytes 8 c

/-- The digest of a counter under a configuration (R197). -/
def digestOfCounter (a : ActiveConfig) (c : Nat) : List Byte := hmac a.alg (secretOf a) (counterMessage c)

/-- The writes of `HMAC`: the digest of `CTR` into `DIGEST` (R197). -/
def hmacEffect (s : State) : State := setDigest (digestOfCounter s.active s.ctr.toNat) s

/-- `HMAC` (R197). -/
def execHmac (s : State) : Host.Outcome State Fault Refusal := computeFrame hmacEffect s

end Sys2Proof.Machine
end

