-- ==== Sys2Proof/Machine/Truncation.lean ====
section
/-!
DEFINITION. The dynamic truncation unit and the command `TRUNC`, spec
43_truncation.md. A digest `h` is a byte string of `L` bytes.
-/

namespace Sys2Proof.Machine

/-- `offset(h)`: the low four bits of the last byte (R210). -/
def truncOffset (h : List Byte) : Nat := (h.getD (h.length - 1) 0 &&& 0x0F).toNat

/-- `binary(h)`: four bytes from the offset, big-endian, the top bit cleared (R211). -/
def truncBinary (h : List Byte) : Word32 :=
  let o := truncOffset h
  ((h.getD o 0 &&& 0x7F) ++ h.getD (o + 1) 0 ++ h.getD (o + 2) 0 ++ h.getD (o + 3) 0).setWidth 32

/-- `otp = binary mod 10^d`, exactly (R213). -/
def truncOtp (b : Word32) (d : Nat) : Nat := b.toNat % 10 ^ d

/-- `render(v, d)`: `d` decimal digits as ASCII bytes, most significant first (R107, R214). -/
def render (v d : Nat) : List Byte :=
  (List.range d).map fun k => 0x30 + BitVec.ofNat 8 (v / 10 ^ (d - 1 - k) % 10)

/-- `truncate(h, d)` (R215). -/
def truncate (h : List Byte) (d : Nat) : List Byte := render (truncOtp (truncBinary h) d) d

/-- The writes of `TRUNC`: `BINARY` and `CODE` from `DIGEST[0..L)` (R216). -/
def truncEffect (s : State) : State :=
  setCode (truncBinary (digestOperand s)) (truncate (digestOperand s) s.active.digits.toNat) s

/-- `TRUNC` (R216). -/
def execTrunc (s : State) : Host.Outcome State Fault Refusal := computeFrame truncEffect s

end Sys2Proof.Machine
end

