-- ==== Sys2Proof/Machine/Hotp.lean ====
section
/-!
DEFINITION. The HOTP compute operation and the command `HOTP`, spec 44_hotp.md.
-/

namespace Sys2Proof.Machine

/-- `compute(secret, c, d, alg)`: the code of a counter (R230). -/
def computeCode (secret : List Byte) (c d : Nat) (alg : HashAlg) : List Byte :=
  truncate (hmac alg secret (counterMessage c)) d

/-- The writes of a generating command for the counter `c`: `DIGEST`, `BINARY`
and `CODE` (R231, R261). -/
def codeEffect (c : Word64) (s : State) : State :=
  let h := digestOfCounter s.active c.toNat
  setCode (truncBinary h) (truncate h s.active.digits.toNat) (setDigest h s)

/-- `HOTP` (R231). -/
def execHotp (s : State) : Host.Outcome State Fault Refusal := computeFrame (fun u => codeEffect u.ctr u) s

end Sys2Proof.Machine
end

