-- ==== Sys2Proof/Machine/Totp.lean ====
section
/-!
DEFINITION. The TOTP commands `GENAT`, `NOW`, `VERIFYAT` and `VERIFY`, spec
47_totp.md.
-/

namespace Sys2Proof.Machine

/-- `generate_at(secret, cfg, T)` for the configuration `a` (R260). -/
def generateAt (a : ActiveConfig) (t : Nat) : List Byte :=
  computeCode (secretOf a) (counterAt t a.period.toNat) a.digits.toNat a.alg

/-- The writes of `GENAT` and `NOW` for the timestamp `t`: `TUSED`, `CTR`,
`DIGEST`, `BINARY` and `CODE` (R261, R263). -/
def generateEffect (t : Word64) (s : State) : State :=
  codeEffect (counterWord t s.active) (counterEffect t s)

/-- `GENAT` (R261). -/
def execGenat (s : State) : Host.Outcome State Fault Refusal := computeFrame (fun u => generateEffect u.ts u) s

/-- `NOW` (R263). -/
def execNow (s : State) : Host.Outcome State Fault Refusal := computeFrame (fun u => generateEffect u.tSample u) s

/-- Whether the window offset `i` matches: it is in range and its code equals the
candidate (R264). -/
def offsetMatches (a : ActiveConfig) (cand : List Byte) (t : Nat) (i : Int) : Bool :=
  let ti := windowTime t i a.period.toNat
  inRange ti && ctEq (generateAt a ti.toNat) cand a.digits.toNat

/-- Whether one of the `n` offsets `-w`, `-w + 1`, ..., `-w + n - 1` hits. The
order is not observable (R268). -/
def anyOffset (hit : Int → Bool) (w : Nat) : Nat → Bool
  | 0 => false
  | n + 1 => anyOffset hit w n || hit ((n : Int) - (w : Int))

/-- `verify_at`: the shape check first, and then the `2W + 1` offsets of the
window (R264, R267). -/
def verifyAt (a : ActiveConfig) (cand : List Byte) (candLen window : Word32) (t : Nat) : Bool :=
  shapeOk candLen a.digits && anyOffset (offsetMatches a cand t) window.toNat (2 * window.toNat + 1)

/-- The writes of `VERIFYAT` and `VERIFY` for the timestamp `t`: `TUSED` and
`STATUS.MATCH` (R265, R266, R269). -/
def verifyEffect (t : Word64) (s : State) : State :=
  setMatched (verifyAt s.active (candOperand s) s.candLen s.window t.toNat) (setTused t s)

/-- `VERIFYAT` (R265). -/
def execVerifyat (s : State) : Host.Outcome State Fault Refusal := computeFrame (fun u => verifyEffect u.ts u) s

/-- `VERIFY` (R266). -/
def execVerify (s : State) : Host.Outcome State Fault Refusal := computeFrame (fun u => verifyEffect u.tSample u) s

end Sys2Proof.Machine
end

