-- ==== Sys2Proof/Machine/Dispatch.lean ====
section
/-!
DEFINITION. The meaning of each command, one arm per constructor of `Instr`
(spec 30_encoding.md rule R101): what the engine step does once the command word
is decoded, the frame of rule R103 around it included.
-/

namespace Sys2Proof.Machine

def exec (i : Instr) (s : State) : Host.Outcome State Fault Refusal :=
  match i with
  | .configure => Sys2Proof.Machine.execConfigure s
  | .clear => Sys2Proof.Machine.execClear s
  | .hmac => Sys2Proof.Machine.execHmac s
  | .trunc => Sys2Proof.Machine.execTrunc s
  | .ts2ctr => Sys2Proof.Machine.execTs2ctr s
  | .cteq => Sys2Proof.Machine.execCteq s
  | .hotp => Sys2Proof.Machine.execHotp s
  | .genat => Sys2Proof.Machine.execGenat s
  | .now => Sys2Proof.Machine.execNow s
  | .verifyat => Sys2Proof.Machine.execVerifyat s
  | .verify => Sys2Proof.Machine.execVerify s

end Sys2Proof.Machine
end

