-- ==== Sys2Proof/Machine/Step.lean ====
section
/-!
DEFINITION. One step of the machine: a turn of the environment, or the engine
step (spec 30_encoding.md rule R103), and an instruction placed where the engine
takes its next one.
-/

namespace Sys2Proof.Machine

/-- The engine step: the latched word decoded and run, an illegal one ended with
`ILLEGAL_COMMAND` (R103, R104). -/
def engineStep (s : State) : Host.Outcome State Fault Refusal :=
  match decode s.cmdLatch with
  | .error _ => .next (raiseErr .illegalCommand s)
  | .ok i => exec i s

/-- One step (R13). -/
def step (s : State) : Host.Outcome State Fault Refusal :=
  match nextTurn s with
  | .engine u => engineStep u
  | .settled u => .next u

/-- The state with an instruction placed so that the very next step runs it. -/
def State.withFetchWord (s : State) (nbits w : Nat) : State := placeCommand nbits w s

end Sys2Proof.Machine
end

