-- ==== Sys2Proof/Safety.lean ====
section
/-!
DEFINITION. What holds of every state that a run from reset reaches: the legal
active configuration (spec 10_state.md rule R43), the relations between the
status flags (R24), and the shape of the result registers (R35, R38). Claims
take it as a premise and a statement says that every step keeps it.
-/

namespace Sys2Proof.Machine

/-- The active configuration is legal when it is valid, all zero when it is not,
and its key buffer is zero beyond the secret (R43, R48). -/
abbrev ActiveOk (avail : BitVec 3) (a : ActiveConfig) : Prop :=
  (a.valid = true →
    (6 ≤ a.digits.toNat ∧ a.digits.toNat ≤ 10) ∧ algAvailable avail a.alg = true ∧
      a.period ≠ 0 ∧ (1 ≤ a.keylen.toNat ∧ a.keylen.toNat ≤ 256)) ∧
  (a.valid = false → a = ActiveConfig.reset) ∧
  (∀ k < 256, a.keylen.toNat ≤ k → bufByte a.key k = 0)

/-- The status flags: no two of `BUSY`, `DONE`, `ERR` at once, an error code
exactly with `ERR`, and `MATCH` only with `DONE` (R24). -/
abbrev StatusOk (st : Status) : Prop :=
  ¬(st.busy = true ∧ st.done = true) ∧ ¬(st.busy = true ∧ st.err = true) ∧
    ¬(st.done = true ∧ st.err = true) ∧ (st.errCode ≠ .none ↔ st.err = true) ∧
    (st.matched = true → st.done = true)

/-- A code buffer: the decimal digits of a code of 6 to 10 characters and zeros
after it, or all zeros where no code has been generated (R35, R48). -/
abbrev CodeOk (code : Vector Byte 16) : Prop :=
  ∃ d < 11, (d = 0 ∨ 6 ≤ d) ∧
    (∀ k < 16, k < d → 0x30 ≤ (bufByte code k).toNat ∧ (bufByte code k).toNat ≤ 0x39) ∧
    (∀ k < 16, d ≤ k → bufByte code k = 0)

/-- The invariant of the machine. -/
structure MachineInv (s : State) : Prop where
  active : ActiveOk s.algAvail s.active
  status : StatusOk s.status
  code : CodeOk s.code
  binary : s.binary.toNat < 2 ^ 31

end Sys2Proof.Machine
end

