-- ==== Sys2Proof/Certificates/Slice0/Obligations.lean ====
section
/-!
DEFINITION. The statements about the machine, from the numbered rules of the
spec. Each says in its comment which rules it formalises.
-/

namespace Sys2Proof.Spec

open Sys2Proof.Machine

/-- `STATUS` after a command that completed (spec 30_encoding.md rule R103). -/
def doneStatus (st : Status) : Status := { st with busy := false, done := true }

/-- `STATUS` after a command that ended with an error (60_exceptions.md rule R296). -/
def errStatus (c : ErrCode) (st : Status) : Status := { st with busy := false, err := true, errCode := c }

/-- The state after a command refused for want of a configuration: `STATUS` and nothing else (R290, R296). -/
def refusedState (s : State) : State := { s with status := errStatus .noConfiguration s.status }

/-- The offsets at which nothing can be accessed: misaligned, outside the space, or in a hole (R40, R77). -/
def unmapped (off : Nat) : Prop :=
  off % 4 ≠ 0 ∨ 0x200 ≤ off ∨ off = 0x04C ∨ (0x070 ≤ off ∧ off ≤ 0x07C) ∨ (0x0C0 ≤ off ∧ off ≤ 0x0FC)

/-- The offsets of the read-only registers (R20, R73). -/
def readOnly (off : Nat) : Prop :=
  off = 0x000 ∨ off = 0x004 ∨ off = 0x00C ∨ off = 0x038 ∨ off = 0x03C ∨ off = 0x040 ∨ off = 0x044 ∨
    off = 0x048 ∨ (0x060 ≤ off ∧ off ≤ 0x06C) ∨ (0x080 ≤ off ∧ off ≤ 0x0BC)

/-- The offsets of the registers that may be read at any time (R78). -/
def alwaysReadable (off : Nat) : Prop :=
  off = 0x000 ∨ off = 0x004 ∨ off = 0x00C ∨ off = 0x038 ∨ off = 0x03C

/-- The conditions under which `CONFIGURE` meets an unavailable algorithm (R132, check 1). -/
def badAlg (s : State) : Prop := 2 < s.cfgAlg.toNat ∨ s.algAvail.getLsbD s.cfgAlg.toNat = false

/-- The conditions under which `CONFIGURE` meets an illegal value of another field (R132, checks 2 to 4). -/
def badField (s : State) : Prop :=
  s.cfgDigits.toNat < 6 ∨ 10 < s.cfgDigits.toNat ∨ s.cfgPeriod = 0 ∨ s.cfgKeylen = 0 ∨ 256 < s.cfgKeylen.toNat

/-- A window offset that is in range and whose code is the candidate: the condition of R264 for one offset. -/
def windowHit (s : State) (t : Word64) (i : Int) : Prop :=
  -(s.window.toNat : Int) ≤ i ∧ i ≤ (s.window.toNat : Int) ∧
    0 ≤ (t.toNat : Int) + i * (s.active.period.toNat : Int) ∧
    (t.toNat : Int) + i * (s.active.period.toNat : Int) ≤ 2 ^ 64 - 1 ∧
    generateAt s.active ((t.toNat : Int) + i * (s.active.period.toNat : Int)).toNat =
      s.cand.toList.take s.active.digits.toNat

end Sys2Proof.Spec

open Sys2Proof Sys2Proof.Machine Sys2Proof.Spec

/-! Encoding (30_encoding.md). -/

/-- R101: the eleven command words and the commands they stand for. -/
def Obligations.CommandWordsDecode : Prop :=
  decode 0x00000001 = .ok .configure ∧ decode 0x00000002 = .ok .clear ∧
  decode 0x00000010 = .ok .hmac ∧ decode 0x00000011 = .ok .trunc ∧
  decode 0x00000012 = .ok .ts2ctr ∧ decode 0x00000013 = .ok .cteq ∧
  decode 0x00000020 = .ok .hotp ∧ decode 0x00000021 = .ok .genat ∧
  decode 0x00000022 = .ok .now ∧ decode 0x00000023 = .ok .verifyat ∧
  decode 0x00000024 = .ok .verify

/-- R100, R101, R104: the decoder reads a command from exactly one word, the one
the encoder gives it; so encoding and decoding agree and no two words alias. -/
def Obligations.DecodeReadsExactlyTheEncodings : Prop :=
  ∀ (w : Word32) (i : Instr), decode w = .ok i ↔ w = encode i

/-- R104: a word with a nonzero bit in 31:8 or one of the listed reserved
opcodes, and only such a word, raises `ILLEGAL_COMMAND` when the engine runs it,
and changes nothing but `STATUS`, with a configuration or without. -/
def Obligations.IllegalWordsOnlySetError : Prop :=
  ∀ u : State,
    ((u.cmdLatch.extractLsb' 8 24 ≠ 0 ∨
        (let op := (u.cmdLatch.extractLsb' 0 8).toNat
         op = 0x00 ∨ (0x03 ≤ op ∧ op ≤ 0x0F) ∨ (0x14 ≤ op ∧ op ≤ 0x1F) ∨ 0x25 ≤ op)) →
      engineStep u = .next { u with status := errStatus .illegalCommand u.status }) ∧
    ((u.cmdLatch.extractLsb' 8 24 = 0 ∧
        (let op := (u.cmdLatch.extractLsb' 0 8).toNat
         op = 0x01 ∨ op = 0x02 ∨ (0x10 ≤ op ∧ op ≤ 0x13) ∨ (0x20 ≤ op ∧ op ≤ 0x24))) →
      ∃ i, decode u.cmdLatch = .ok i ∧ engineStep u = exec i u)

/-! The step (00_scope.md R13, 30_encoding.md R103, 70_reset_and_hazards.md R347). -/

/-- R103: at the engine's turn, a latched word that decodes to a command makes
the step that command's meaning, run on the state the turn starts from. Whose
turn it is follows the model's schedule (assumption 2). -/
def Obligations.EngineStepRunsDecodedCommand : Prop :=
  ∀ (s u : State) (i : Instr), nextTurn s = .engine u → i.wf = true → decode u.cmdLatch = .ok i →
    step s = exec i u

/-- R13, R103: the engine has a step exactly when `BUSY = 1` and the turn is its
own: the environment gave it the turn, or has nothing left to do, which is the
model's choice (assumptions 2 and 3). The turn changes nothing but the script. -/
def Obligations.EngineTurnExactlyWhenBusy : Prop :=
  ∀ s u : State, nextTurn s = .engine u ↔
    s.status.busy = true ∧
      ((s.env.script = [] ∧ u = s) ∨
        ∃ rest, s.env.script = .engine :: rest ∧ u = { s with env := { s.env with script := rest } })

/-- R71, R72, R73: a transaction of the host is one step. A read leaves every
register and adds its answer to the host's record; a write leaves the state
that `RegWrite` gives and adds its answer. The record is the model's own
(assumptions 2 and 4). -/
def Obligations.HostTransactionIsOneStep : Prop :=
  ∀ (s : State) (off : Nat) (data : Word32) (time : Word64) (rest : List Event),
    (s.env.script = .bus (.read off) time :: rest →
      step s = .next { s with env := { script := rest, replies := regRead off time s :: s.env.replies } }) ∧
    (s.env.script = .bus (.write off data) time :: rest →
      step s = .next { (regWrite off data time s).1 with
        env := { script := rest, replies := (regWrite off data time s).2 :: s.env.replies } })

/-- R347: while `BUSY = 0` the hardware changes nothing by itself: only the
script, which is the model's own, moves on (assumptions 2 and 3). -/
def Obligations.IdleMachineRests : Prop :=
  ∀ s : State, s.status.busy = false →
    (s.env.script = [] → step s = .next s) ∧
    (∀ rest, s.env.script = .engine :: rest → step s = .next { s with env := { s.env with script := rest } })

/-- R330, R331: a reset, also during a command, leaves the reset state, whatever
the state was; the parameter and the environment are no part of it
(assumptions 1 and 2). -/
def Obligations.ResetEventRestoresResetState : Prop :=
  ∀ (s : State) (rest : List Event), s.env.script = .reset :: rest →
    step s = .next { State.reset with
      algAvail := s.algAvail, env := { script := rest, replies := s.env.replies } }

/-- R48: the reset value of every state element, and that a `CONFIGURE` straight
after reset fails, for every `ALG_AVAIL`. -/
def Obligations.ResetStateValues : Prop :=
  statusWord State.reset = 0 ∧ State.reset.status.busy = false ∧
  State.reset.cfgDigits = 0 ∧ State.reset.cfgAlg = 0 ∧ State.reset.cfgPeriod = 0 ∧ State.reset.cfgKeylen = 0 ∧
  State.reset.window = 1 ∧ State.reset.candLen = 0 ∧
  State.reset.ts = 0 ∧ State.reset.ctr = 0 ∧ State.reset.tused = 0 ∧ State.reset.binary = 0 ∧
  State.reset.cand.toList = zeros 16 ∧ State.reset.code.toList = zeros 16 ∧
  State.reset.digest.toList = zeros 64 ∧ State.reset.key.toList = zeros 256 ∧
  State.reset.active.valid = false ∧ State.reset.active.digits = 0 ∧ algCode State.reset.active.alg = 0 ∧
  State.reset.active.period = 0 ∧ State.reset.active.keylen = 0 ∧
  State.reset.active.key.toList = zeros 256 ∧
  State.reset.cmdLatch = 0 ∧ State.reset.tSample = 0 ∧
  (∀ time : Word64, regRead 0x000 time State.reset = .data 0x544F5450 ∧
    regRead 0x004 time State.reset = .data 0x01000007 ∧
    regRead 0x038 time State.reset = .data (time.extractLsb' 0 32) ∧
    regRead 0x03C time State.reset = .data (time.extractLsb' 32 32)) ∧
  (∀ avail : BitVec 3, exec .configure { State.reset with algAvail := avail } =
    .next { State.reset with
      algAvail := avail,
      status := errStatus (if avail.getLsbD 0 then .invalidConfiguration else .unsupportedAlgorithm) Status.reset })

/-! The register bus (10_state.md, 20_memory.md). -/

/-- R77: an access gets `ERR`, and then has no effect, in exactly the listed cases. -/
def Obligations.BusErrorsExactly : Prop :=
  ∀ (off : Nat) (data : Word32) (time : Word64) (s : State),
    (regRead off time s = .busErr ↔ unmapped off ∨ (s.status.busy = true ∧ ¬ alwaysReadable off)) ∧
    ((regWrite off data time s).2 = .busErr ↔ unmapped off ∨ readOnly off ∨ s.status.busy = true) ∧
    ((regWrite off data time s).2 = .busErr → (regWrite off data time s).1 = s) ∧
    ((regWrite off data time s).2 ≠ .busErr → (regWrite off data time s).2 = .ack)

/-- R72, R79: what a read answers at each one-word register. The identification,
status and time registers answer at any time, the others while `BUSY = 0`. -/
def Obligations.RegistersReadTheirValues : Prop :=
  ∀ (time : Word64) (s : State),
    (regRead 0x000 time s = .data 0x544F5450 ∧ regRead 0x004 time s = .data (capWord s) ∧
      regRead 0x00C time s = .data (statusWord s) ∧
      regRead 0x038 time s = .data (time.extractLsb' 0 32) ∧
      regRead 0x03C time s = .data (time.extractLsb' 32 32)) ∧
    (s.status.busy = false →
      regRead 0x008 time s = .data 0 ∧
      regRead 0x010 time s = .data s.cfgDigits ∧ regRead 0x014 time s = .data s.cfgAlg ∧
      regRead 0x018 time s = .data s.cfgPeriod ∧ regRead 0x01C time s = .data s.cfgKeylen ∧
      regRead 0x020 time s = .data s.window ∧ regRead 0x024 time s = .data s.candLen ∧
      regRead 0x028 time s = .data (s.ts.extractLsb' 0 32) ∧ regRead 0x02C time s = .data (s.ts.extractLsb' 32 32) ∧
      regRead 0x030 time s = .data (s.ctr.extractLsb' 0 32) ∧ regRead 0x034 time s = .data (s.ctr.extractLsb' 32 32) ∧
      regRead 0x040 time s = .data (s.tused.extractLsb' 0 32) ∧
      regRead 0x044 time s = .data (s.tused.extractLsb' 32 32) ∧
      regRead 0x048 time s = .data s.binary)

/-- R75: the four bytes a word of `CAND`, `CODE` or `DIGEST` reads as, in
little-endian lane order. -/
def Obligations.BufferReadsInLaneOrder : Prop :=
  ∀ (time : Word64) (s : State) (j : Nat), s.status.busy = false →
    (j < 4 → ∃ w, regRead (0x050 + 4 * j) time s = .data w ∧
      w.extractLsb' 0 8 = bufByte s.cand (4 * j) ∧ w.extractLsb' 8 8 = bufByte s.cand (4 * j + 1) ∧
      w.extractLsb' 16 8 = bufByte s.cand (4 * j + 2) ∧ w.extractLsb' 24 8 = bufByte s.cand (4 * j + 3)) ∧
    (j < 4 → ∃ w, regRead (0x060 + 4 * j) time s = .data w ∧
      w.extractLsb' 0 8 = bufByte s.code (4 * j) ∧ w.extractLsb' 8 8 = bufByte s.code (4 * j + 1) ∧
      w.extractLsb' 16 8 = bufByte s.code (4 * j + 2) ∧ w.extractLsb' 24 8 = bufByte s.code (4 * j + 3)) ∧
    (j < 16 → ∃ w, regRead (0x080 + 4 * j) time s = .data w ∧
      w.extractLsb' 0 8 = bufByte s.digest (4 * j) ∧ w.extractLsb' 8 8 = bufByte s.digest (4 * j + 1) ∧
      w.extractLsb' 16 8 = bufByte s.digest (4 * j + 2) ∧ w.extractLsb' 24 8 = bufByte s.digest (4 * j + 3))

/-- R73, R75: a write to a word of `CAND` or `KEY` stores its four bytes in
little-endian lane order and leaves every other byte and register. -/
def Obligations.BufferWritesInLaneOrder : Prop :=
  ∀ (time : Word64) (s : State) (j : Nat) (data : Word32), s.status.busy = false →
    (j < 4 → ∃ t, regWrite (0x050 + 4 * j) data time s = (t, .ack) ∧
      bufByte t.cand (4 * j) = data.extractLsb' 0 8 ∧ bufByte t.cand (4 * j + 1) = data.extractLsb' 8 8 ∧
      bufByte t.cand (4 * j + 2) = data.extractLsb' 16 8 ∧ bufByte t.cand (4 * j + 3) = data.extractLsb' 24 8 ∧
      (∀ k < 16, k / 4 ≠ j → bufByte t.cand k = bufByte s.cand k) ∧ t = { s with cand := t.cand }) ∧
    (j < 64 → ∃ t, regWrite (0x100 + 4 * j) data time s = (t, .ack) ∧
      bufByte t.key (4 * j) = data.extractLsb' 0 8 ∧ bufByte t.key (4 * j + 1) = data.extractLsb' 8 8 ∧
      bufByte t.key (4 * j + 2) = data.extractLsb' 16 8 ∧ bufByte t.key (4 * j + 3) = data.extractLsb' 24 8 ∧
      (∀ k < 256, k / 4 ≠ j → bufByte t.key k = bufByte s.key k) ∧ t = { s with key := t.key })

/-- R25 to R32, R73: a write to a one-word read-write register is read back whole,
no other register reads differently, and no hidden state and no byte of `KEY` changes. -/
def Obligations.RegisterWriteReadsBack : Prop :=
  ∀ (off : Nat) (data : Word32) (time : Word64) (s : State), s.status.busy = false →
    0x010 ≤ off → off ≤ 0x034 → off % 4 = 0 →
    ∃ t, regWrite off data time s = (t, .ack) ∧
      (∀ now, regRead off now t = .data data) ∧
      (∀ off' now, off' ≠ off → regRead off' now t = regRead off' now s) ∧
      t.status = s.status ∧ t.active = s.active ∧ t.key = s.key ∧ t.cmdLatch = s.cmdLatch ∧
      t.tSample = s.tSample ∧ t.algAvail = s.algAvail ∧ t.env = s.env

/-- R79: a write to a read-only register is dropped with `ERR`, and a
write-only register reads as 0 with `OK`, whatever it holds. -/
def Obligations.AccessRightsHold : Prop :=
  ∀ (off : Nat) (data : Word32) (time : Word64) (s : State),
    (readOnly off → regWrite off data time s = (s, .busErr)) ∧
    (s.status.busy = false → off % 4 = 0 → (off = 0x008 ∨ (0x100 ≤ off ∧ off ≤ 0x1FC)) →
      regRead off time s = .data 0)

/-- R102: what an accepted write to `CMD` writes, and that one while `BUSY = 1` is dropped. -/
def Obligations.CommandAcceptance : Prop :=
  ∀ (data : Word32) (time : Word64) (s : State),
    (s.status.busy = false → regWrite 0x008 data time s =
      ({ s with cmdLatch := data, tSample := time,
                status := { busy := true, done := false, err := false, matched := false, errCode := .none } }, .ack)) ∧
    (s.status.busy = true → regWrite 0x008 data time s = (s, .busErr))

/-- R78: while a command is in progress every write is refused and changes
nothing, and of the reads all but five are refused. -/
def Obligations.BusyFreezesRegisters : Prop :=
  ∀ (s : State), s.status.busy = true →
    (∀ off data time, regWrite off data time s = (s, .busErr)) ∧
    (∀ off time, ¬ alwaysReadable off → regRead off time s = .busErr) ∧
    (∀ off time, alwaysReadable off → ∃ w, regRead off time s = .data w)

/-- R36, R42, R43, R79: no read tells anything of the staging secret, of the
active configuration but whether it exists, of the latched word or of the time
sample: two states that differ only there answer every read alike. -/
def Obligations.HiddenStateIsUnreadable : Prop :=
  ∀ (s : State) (key : Vector Byte 256) (a : ActiveConfig) (w : Word32) (sample : Word64),
    a.valid = s.active.valid → ∀ off time,
      regRead off time { s with key := key, active := a, cmdLatch := w, tSample := sample } = regRead off time s

/-- R22, R24, R290: the fields of the words `STATUS` and `CAP` and the numbers of the error codes. -/
def Obligations.StatusAndCapFields : Prop :=
  (∀ s : State,
    (statusWord s).getLsbD 0 = s.status.busy ∧ (statusWord s).getLsbD 1 = s.status.done ∧
    (statusWord s).getLsbD 2 = s.status.err ∧ (statusWord s).getLsbD 3 = s.active.valid ∧
    (statusWord s).getLsbD 4 = s.status.matched ∧ (statusWord s).extractLsb' 5 3 = 0 ∧
    (statusWord s).extractLsb' 8 8 = errNumber s.status.errCode ∧ (statusWord s).extractLsb' 16 16 = 0 ∧
    (capWord s).extractLsb' 0 3 = s.algAvail ∧ (capWord s).extractLsb' 3 13 = 0 ∧
    (capWord s).extractLsb' 16 16 = 256) ∧
  errNumber .none = 0x00 ∧ errNumber .unsupportedAlgorithm = 0x01 ∧ errNumber .invalidConfiguration = 0x02 ∧
  errNumber .noConfiguration = 0x03 ∧ errNumber .illegalCommand = 0x04

/-! Configuration (40_config.md). -/

/-- R132: the checks of `validate` and their order. -/
def Obligations.ValidateChecksInOrder : Prop :=
  ∀ (avail : BitVec 3) (alg digits period keylen : Word32),
    ((2 < alg.toNat ∨ avail.getLsbD alg.toNat = false) →
      validate avail alg digits period keylen = .error .unsupportedAlgorithm) ∧
    (alg.toNat ≤ 2 → avail.getLsbD alg.toNat = true →
      (digits.toNat < 6 ∨ 10 < digits.toNat ∨ period = 0 ∨ keylen = 0 ∨ 256 < keylen.toNat) →
      validate avail alg digits period keylen = .error .invalidConfiguration) ∧
    (alg.toNat ≤ 2 → avail.getLsbD alg.toNat = true → 6 ≤ digits.toNat → digits.toNat ≤ 10 → period ≠ 0 →
      keylen ≠ 0 → keylen.toNat ≤ 256 →
      ∃ a, validate avail alg digits period keylen = .ok a ∧ algCode a = alg.toNat)

/-- R131, R133, R137: a `CONFIGURE` of legal values copies the staging registers
and the secret into the active configuration, completes, and writes nothing else. -/
def Obligations.ConfigureCommits : Prop :=
  ∀ s : State, ¬ badAlg s → ¬ badField s →
    ∃ t, exec .configure s = .next t ∧
      t.active.valid = true ∧ t.active.digits = s.cfgDigits ∧ algCode t.active.alg = s.cfgAlg.toNat ∧
      t.active.period = s.cfgPeriod ∧ t.active.keylen = s.cfgKeylen ∧
      (∀ k < 256, bufByte t.active.key k = if k < s.cfgKeylen.toNat then bufByte s.key k else 0) ∧
      t = { s with active := t.active, status := doneStatus s.status }

/-- R134, R294: a `CONFIGURE` that fails reports its error, the algorithm's
before the others', and changes nothing but `STATUS`. -/
def Obligations.ConfigureFailureKeepsEverything : Prop :=
  ∀ s : State,
    (badAlg s → exec .configure s =
      .next { s with status := errStatus .unsupportedAlgorithm s.status }) ∧
    (¬ badAlg s → badField s → exec .configure s =
      .next { s with status := errStatus .invalidConfiguration s.status })

/-- R136: after `CLEAR` every state element is at its reset value and `DONE` is
set, whatever the state was. -/
def Obligations.ClearRestoresResetState : Prop :=
  ∀ s : State, ∃ t, exec .clear s = .next t ∧ statusWord t = 0x00000002 ∧
    t = { State.reset with status := doneStatus State.reset.status, algAvail := s.algAvail, env := s.env }

/-- R103, R290: each of the nine compute commands ends with `NO_CONFIGURATION`
when no configuration is active, and `CONFIGURE` and `CLEAR` never do. -/
def Obligations.ComputeNeedsConfiguration : Prop :=
  ∀ (i : Instr) (s t : State), exec i s = .next t → s.status.errCode = .none →
    (t.status.errCode = .noConfiguration ↔ s.active.valid = false ∧ i ≠ .configure ∧ i ≠ .clear)

/-- R296: an engine step that ends with an error makes exactly the three writes
of `raise Err`, and the code is that of an error. -/
def Obligations.ErrorsArePrecise : Prop :=
  ∀ (u t : State), engineStep u = .next t → u.status.err = false → t.status.err = true →
    t.status.errCode ≠ .none ∧ t = { u with status := errStatus t.status.errCode u.status }

/-- R44: which command can leave `MATCH` set, which can change `CFG_VALID` and
to what, and that every command clears `BUSY` and sets one of `DONE` and `ERR`. -/
def Obligations.FlagsWrittenByCommands : Prop :=
  ∀ (i : Instr) (s t : State), exec i s = .next t →
    s.status = { busy := true, done := false, err := false, matched := false, errCode := .none } →
    (t.status.matched = true → i = .cteq ∨ i = .verifyat ∨ i = .verify) ∧
    (t.active.valid ≠ s.active.valid →
      (i = .configure ∧ t.active.valid = true) ∨ (i = .clear ∧ t.active.valid = false)) ∧
    t.status.busy = false ∧ t.status.done = !t.status.err

/-- R135, R339: no compute command reads the staging registers or the staging
secret, or writes them. -/
def Obligations.StagingNeverReachesCompute : Prop :=
  ∀ (i : Instr) (s t : State) (digits alg period keylen : Word32) (key : Vector Byte 256),
    i ≠ .configure → i ≠ .clear → exec i s = .next t →
    exec i { s with cfgDigits := digits, cfgAlg := alg, cfgPeriod := period, cfgKeylen := keylen, key := key } =
      .next { t with cfgDigits := digits, cfgAlg := alg, cfgPeriod := period, cfgKeylen := keylen, key := key }

/-! Hash functions and HMAC (41_sha.md, 42_hmac.md). -/

/-- R151, R152: the padded message, with the least number of zeros that fills
whole blocks, and the bounds on its length; the upper half of the long length
field is zero for every message the hardware hashes. -/
def Obligations.PaddingFillsBlocks : Prop :=
  ∀ m : List Byte,
    (∃ z < 64, (m.length + 1 + z + 8) % 64 = 0 ∧ pad64 m = m ++ [0x80] ++ zeros z ++ beBytes 8 (8 * m.length) ∧
      (pad64 m).length % 64 = 0 ∧ m.length + 9 ≤ (pad64 m).length ∧ (pad64 m).length ≤ m.length + 72) ∧
    (∃ z < 128, (m.length + 1 + z + 16) % 128 = 0 ∧
      pad128 m = m ++ [0x80] ++ zeros z ++ beBytes 16 (8 * m.length) ∧ (pad128 m).length % 128 = 0) ∧
    (m.length ≤ 256 → (beBytes 16 (8 * m.length)).take 8 = zeros 8)

/-- R156, R163, R170: the message schedules: the sixteen words of the block and
then each word from the words 2 to 16 places before it. -/
def Obligations.MessageSchedules : Prop :=
  (∀ m : List Word32, m.length = 16 →
    (sha1Schedule m).length = 80 ∧ (sha1Schedule m).take 16 = m ∧
    ∀ t, 16 ≤ t → t < 80 → (sha1Schedule m).getD t 0 =
      rotl ((sha1Schedule m).getD (t - 3) 0 ^^^ (sha1Schedule m).getD (t - 8) 0 ^^^
        (sha1Schedule m).getD (t - 14) 0 ^^^ (sha1Schedule m).getD (t - 16) 0) 1) ∧
  (∀ m : List Word32, m.length = 16 →
    let w := sha2Schedule sha256Fns m
    w.length = 64 ∧ w.take 16 = m ∧
    ∀ t, 16 ≤ t → t < 64 → w.getD t 0 =
      (rotr (w.getD (t - 2) 0) 17 ^^^ rotr (w.getD (t - 2) 0) 19 ^^^ (w.getD (t - 2) 0 >>> 10)) +
        w.getD (t - 7) 0 +
        (rotr (w.getD (t - 15) 0) 7 ^^^ rotr (w.getD (t - 15) 0) 18 ^^^ (w.getD (t - 15) 0 >>> 3)) +
        w.getD (t - 16) 0) ∧
  (∀ m : List Word64, m.length = 16 →
    let w := sha2Schedule sha512Fns m
    w.length = 80 ∧ w.take 16 = m ∧
    ∀ t, 16 ≤ t → t < 80 → w.getD t 0 =
      (rotr (w.getD (t - 2) 0) 19 ^^^ rotr (w.getD (t - 2) 0) 61 ^^^ (w.getD (t - 2) 0 >>> 6)) +
        w.getD (t - 7) 0 +
        (rotr (w.getD (t - 15) 0) 1 ^^^ rotr (w.getD (t - 15) 0) 8 ^^^ (w.getD (t - 15) 0 >>> 7)) +
        w.getD (t - 16) 0)

/-- R105, R190: the output lengths of the hash functions and of HMAC. -/
def Obligations.DigestLengths : Prop :=
  ∀ (alg : HashAlg) (key msg : List Byte),
    (hashBytes alg msg).length = digestBytes alg ∧ (hmac alg key msg).length = digestBytes alg ∧
    (digestBytes .sha1 = 20 ∧ digestBytes .sha256 = 32 ∧ digestBytes .sha512 = 64) ∧
    (blockBytes .sha1 = 64 ∧ blockBytes .sha256 = 64 ∧ blockBytes .sha512 = 128)

/-- R190 to R193: key preparation, the inner hash and the outer hash, with the
lengths of what they give. -/
def Obligations.HmacFormula : Prop :=
  ∀ (alg : HashAlg) (key msg : List Byte), ∃ k0 inner : List Byte,
    k0.length = blockBytes alg ∧
    (blockBytes alg < key.length → k0 = hashBytes alg key ++ zeros (blockBytes alg - digestBytes alg)) ∧
    (key.length ≤ blockBytes alg → k0 = key ++ zeros (blockBytes alg - key.length)) ∧
    inner = hashBytes alg (k0.map (· ^^^ 0x36) ++ msg) ∧ inner.length = digestBytes alg ∧
    hmac alg key msg = hashBytes alg (k0.map (· ^^^ 0x5c) ++ inner) ∧
    (hmac alg key msg).length = digestBytes alg

/-- R195 (b): HMAC is not injective in the key: a key shorter than a block and
the same key with a zero appended, and a key longer than a block and its hash,
give the same HMAC for every message. -/
def Obligations.HmacKeysThatCoincide : Prop :=
  ∀ (alg : HashAlg) (key msg : List Byte),
    (key.length < blockBytes alg → hmac alg (key ++ [0x00]) msg = hmac alg key msg) ∧
    (blockBytes alg < key.length → hmac alg (hashBytes alg key) msg = hmac alg key msg)

/-- R194: the message of a counter: eight bytes, the most significant first,
which read big-endian give the counter back. -/
def Obligations.CounterMessageBytes : Prop :=
  ∀ c : Word64, (counterMessage c.toNat).length = 8 ∧ be (counterMessage c.toNat) = c.toNat ∧
    ∀ k < 8, (counterMessage c.toNat).getD k 0 = c.extractLsb' (8 * (7 - k)) 8

/-- R197: `HMAC`. -/
def Obligations.HmacCommandWritesDigest : Prop :=
  ∀ s : State,
    (s.active.valid = true → ∃ t, exec .hmac s = .next t ∧
      t.digest.toList = hmac s.active.alg (s.active.key.toList.take s.active.keylen.toNat) (beBytes 8 s.ctr.toNat) ++
        zeros (64 - digestBytes s.active.alg) ∧
      t = { s with digest := t.digest, status := doneStatus s.status }) ∧
    (s.active.valid = false → exec .hmac s = .next (refusedState s))

/-! Dynamic truncation (43_truncation.md). -/

/-- R210, R211, R212: the offset, the four bytes it selects, which lie inside
the digest, and the 31-bit number they give. -/
def Obligations.TruncationExtractsFourBytes : Prop :=
  ∀ h : List Byte, 20 ≤ h.length → ∃ o ≤ 15,
    o = (h.getD (h.length - 1) 0).toNat % 16 ∧ o + 3 ≤ 18 ∧ o + 3 < h.length ∧
    (truncBinary h).toNat = ((h.getD o 0).toNat % 128) * 2 ^ 24 + (h.getD (o + 1) 0).toNat * 2 ^ 16 +
      (h.getD (o + 2) 0).toNat * 2 ^ 8 + (h.getD (o + 3) 0).toNat ∧
    (truncBinary h).toNat = be ((h.drop o).take 4) % 2 ^ 31 ∧ (truncBinary h).toNat < 2 ^ 31

/-- R213, R214, R215: the rendering of a number below `10^d`: exactly `d` ASCII
digits, each the digit of its place, which read as a decimal number give it
back; and truncation, which renders the exact remainder modulo `10^d`, for ten
digits the number itself. -/
def Obligations.ReductionAndRendering : Prop :=
  (∀ v d : Nat, v < 10 ^ d →
    (render v d).length = d ∧
    (∀ k < d, ((render v d).getD k 0).toNat = 0x30 + v / 10 ^ (d - 1 - k) % 10 ∧
      0x30 ≤ ((render v d).getD k 0).toNat ∧ ((render v d).getD k 0).toNat ≤ 0x39) ∧
    (render v d).foldl (fun acc b => acc * 10 + (b.toNat - 0x30)) 0 = v) ∧
  (∀ (h : List Byte) (d : Nat),
    truncate h d = render ((truncBinary h).toNat % 10 ^ d) d ∧
    truncate h 10 = render (truncBinary h).toNat 10)

/-- R216: `TRUNC`. -/
def Obligations.TruncCommandWritesCode : Prop :=
  ∀ s : State, ActiveOk s.algAvail s.active →
    (s.active.valid = true → ∃ t, exec .trunc s = .next t ∧
      t.binary = truncBinary (s.digest.toList.take (digestBytes s.active.alg)) ∧
      t.code.toList = truncate (s.digest.toList.take (digestBytes s.active.alg)) s.active.digits.toNat ++
        zeros (16 - s.active.digits.toNat) ∧
      t = { s with binary := t.binary, code := t.code, status := doneStatus s.status }) ∧
    (s.active.valid = false → exec .trunc s = .next (refusedState s))

/-! HOTP (44_hotp.md). -/

/-- R231: `HOTP`; its effect is that of `HMAC` and then `TRUNC`. -/
def Obligations.HotpCommandWritesCode : Prop :=
  ∀ s : State, ActiveOk s.algAvail s.active →
    (s.active.valid = true → ∃ t h, exec .hotp s = .next t ∧
      h = hmac s.active.alg (s.active.key.toList.take s.active.keylen.toNat) (beBytes 8 s.ctr.toNat) ∧
      t.digest.toList = h ++ zeros (64 - digestBytes s.active.alg) ∧
      t.binary = truncBinary h ∧
      t.code.toList = truncate h s.active.digits.toNat ++ zeros (16 - s.active.digits.toNat) ∧
      t = { s with digest := t.digest, binary := t.binary, code := t.code, status := doneStatus s.status } ∧
      ∃ u, exec .hmac s = .next u ∧ exec .trunc u = .next t) ∧
    (s.active.valid = false → exec .hotp s = .next (refusedState s))

/-! Counter arithmetic (45_counter.md). -/

/-- R241: for every period from 1 to 2^32 - 1 and every counter `c`, `TS2CTR`
leaves `c` in `CTR` exactly for the timestamps from `c * P` to `c * P + P - 1`. -/
def Obligations.CounterBoundaries : Prop :=
  ∀ (s : State) (c : Nat), s.active.valid = true → s.active.period ≠ 0 →
    ∃ t, exec .ts2ctr s = .next t ∧
      (t.ctr.toNat = c ↔
        c * s.active.period.toNat ≤ s.ts.toNat ∧ s.ts.toNat ≤ c * s.active.period.toNat + s.active.period.toNat - 1)

/-- R244, R245: at an offset whose timestamp is not negative the counter is that
of the timestamp plus the offset, and the timestamp is negative exactly when that
sum is; offset 0 is always in range; range is 0 to 2^64 - 1. -/
def Obligations.WindowCountersAreConsecutive : Prop :=
  ∀ (t p : Nat) (i : Int), 0 < p →
    (windowTime t i p < 0 ↔ (counterAt t p : Int) + i < 0) ∧
    (0 ≤ windowTime t i p → (counterAt (windowTime t i p).toNat p : Int) = (counterAt t p : Int) + i) ∧
    (inRange (windowTime t i p) = true ↔ 0 ≤ (t : Int) + i * p ∧ (t : Int) + i * p ≤ 2 ^ 64 - 1) ∧
    (t < 2 ^ 64 → inRange (windowTime t 0 p) = true)

/-- R240, R242: `TS2CTR`. -/
def Obligations.Ts2ctrCommandWritesCounter : Prop :=
  ∀ s : State, ActiveOk s.algAvail s.active →
    (s.active.valid = true → ∃ t, exec .ts2ctr s = .next t ∧
      t.tused = s.ts ∧ t.ctr.toNat = s.ts.toNat / s.active.period.toNat ∧
      t = { s with tused := s.ts, ctr := t.ctr, status := doneStatus s.status }) ∧
    (s.active.valid = false → exec .ts2ctr s = .next (refusedState s))

/-! The comparator (46_compare.md). -/

/-- R250: the comparator folds the differences of the first `n` bytes into one
accumulator, and its result is their equality. -/
def Obligations.CtEqIsEquality : Prop :=
  ∀ (a b : List Byte) (n : Nat),
    (ctEq a b n = true ↔ (List.range n).foldl (fun acc k => acc ||| (a.getD k 0 ^^^ b.getD k 0)) 0 = 0) ∧
    (ctEq a b n = true ↔ ∀ k < n, a.getD k 0 = b.getD k 0) ∧
    (a.length = n → b.length = n → (ctEq a b n = true ↔ a = b))

/-- The structural requirement on the comparator (46_compare.md section 1), said
of the model's own count of byte pairs: exactly `n`, whatever the bytes are. The
count is the model's choice (assumption 10): no register shows it, and in a model
without time the requirement has no observable content. -/
def Obligations.CtEqInspectsEveryByte : Prop :=
  ∀ (a b a' b' : List Byte) (n : Nat),
    (compareBytes a b n).pairs = n ∧ (compareBytes a b n).pairs = (compareBytes a' b' n).pairs

/-- R252, R253: `CTEQ`. -/
def Obligations.CteqCommandCompares : Prop :=
  ∀ s : State, ActiveOk s.algAvail s.active →
    (s.active.valid = true → ∃ t, exec .cteq s = .next t ∧
      (t.status.matched = true ↔ s.candLen = s.active.digits ∧
        ∀ k < s.active.digits.toNat, bufByte s.cand k = bufByte s.code k) ∧
      t = { s with status := { doneStatus s.status with matched := t.status.matched } }) ∧
    (s.active.valid = false → exec .cteq s = .next (refusedState s))

/-! TOTP (47_totp.md). -/

/-- R260, R261: `GENAT`; its effect is that of `TS2CTR` and then `HOTP`. -/
def Obligations.GenatCommandWritesCode : Prop :=
  ∀ s : State, ActiveOk s.algAvail s.active →
    (s.active.valid = true → ∃ t h, exec .genat s = .next t ∧
      t.ctr.toNat = s.ts.toNat / s.active.period.toNat ∧
      h = hmac s.active.alg (s.active.key.toList.take s.active.keylen.toNat) (beBytes 8 t.ctr.toNat) ∧
      t.digest.toList = h ++ zeros (64 - digestBytes s.active.alg) ∧
      t.binary = truncBinary h ∧
      t.code.toList = generateAt s.active s.ts.toNat ++ zeros (16 - s.active.digits.toNat) ∧
      generateAt s.active s.ts.toNat = truncate h s.active.digits.toNat ∧
      t = { s with tused := s.ts, ctr := t.ctr, digest := t.digest, binary := t.binary, code := t.code,
                   status := doneStatus s.status } ∧
      ∃ u, exec .ts2ctr s = .next u ∧ exec .hotp u = .next t) ∧
    (s.active.valid = false → exec .genat s = .next (refusedState s))

/-- R262, R263: `NOW`: as `GENAT`, on the time sampled at acceptance; `TS` is
neither read nor written. -/
def Obligations.NowCommandUsesSample : Prop :=
  ∀ s : State, ActiveOk s.algAvail s.active →
    (s.active.valid = true → ∃ t h, exec .now s = .next t ∧
      t.ctr.toNat = s.tSample.toNat / s.active.period.toNat ∧
      h = hmac s.active.alg (s.active.key.toList.take s.active.keylen.toNat) (beBytes 8 t.ctr.toNat) ∧
      t.digest.toList = h ++ zeros (64 - digestBytes s.active.alg) ∧
      t.binary = truncBinary h ∧
      t.code.toList = generateAt s.active t.tused.toNat ++ zeros (16 - s.active.digits.toNat) ∧
      generateAt s.active s.tSample.toNat = truncate h s.active.digits.toNat ∧
      t = { s with tused := s.tSample, ctr := t.ctr, digest := t.digest, binary := t.binary, code := t.code,
                   status := doneStatus s.status } ∧
      ∀ ts, exec .now { s with ts := ts } = .next { t with ts := ts }) ∧
    (s.active.valid = false → exec .now s = .next (refusedState s))

/-- R264, R265, R269: `VERIFYAT`: the result, and that nothing but `TUSED` and
`STATUS` is written. -/
def Obligations.VerifyatCommandChecksWindow : Prop :=
  ∀ s : State, ActiveOk s.algAvail s.active →
    (s.active.valid = true → ∃ t, exec .verifyat s = .next t ∧
      (t.status.matched = true ↔ s.candLen = s.active.digits ∧ ∃ i : Int, windowHit s s.ts i) ∧
      t = { s with tused := s.ts, status := { doneStatus s.status with matched := t.status.matched } }) ∧
    (s.active.valid = false → exec .verifyat s = .next (refusedState s))

/-- R264, R266, R269: `VERIFY`: as `VERIFYAT`, around the time sampled at
acceptance; `TS` is neither read nor written. -/
def Obligations.VerifyCommandUsesSample : Prop :=
  ∀ s : State, ActiveOk s.algAvail s.active →
    (s.active.valid = true → ∃ t, exec .verify s = .next t ∧
      (t.status.matched = true ↔ s.candLen = s.active.digits ∧ ∃ i : Int, windowHit s s.tSample i) ∧
      t = { s with tused := s.tSample, status := { doneStatus s.status with matched := t.status.matched } } ∧
      ∀ ts, exec .verify { s with ts := ts } = .next { t with ts := ts }) ∧
    (s.active.valid = false → exec .verify s = .next (refusedState s))

/-- R267: a candidate of the wrong length gives false without error, `TUSED`
still written, whatever the candidate, the window, the time and the secret are. -/
def Obligations.WrongLengthNeverMatches : Prop :=
  ∀ s : State, s.active.valid = true → s.candLen ≠ s.active.digits →
    exec .verifyat s = .next { s with tused := s.ts, status := { doneStatus s.status with matched := false } } ∧
    exec .verify s = .next { s with tused := s.tSample, status := { doneStatus s.status with matched := false } }

/-- R245, R264: verification by counters: a candidate of the right length is
accepted exactly when it is the code of a counter no further than the window
from that of the time, none below 0, none whose timestamp passes 2^64 - 1. -/
def Obligations.VerifyAcceptsWindowCounters : Prop :=
  ∀ (a : ActiveConfig) (cand : List Byte) (candLen window : Word32) (t : Word64),
    a.period ≠ 0 → cand.length = a.digits.toNat →
    (verifyAt a cand candLen window t.toNat = true ↔
      candLen = a.digits ∧ ∃ c : Nat,
        t.toNat / a.period.toNat ≤ c + window.toNat ∧ c ≤ t.toNat / a.period.toNat + window.toNat ∧
        c * a.period.toNat + t.toNat % a.period.toNat < 2 ^ 64 ∧
        computeCode (secretOf a) c a.digits.toNat a.alg = cand)

/-- R272, round trip: the code that `GENAT` leaves, copied to the candidate, is
accepted by `VERIFYAT` at the same timestamp, whatever the window is. -/
def Obligations.GenerateVerifyRoundTrip : Prop :=
  ∀ (s : State) (window : Word32), ActiveOk s.algAvail s.active → s.active.valid = true →
    ∃ g v, exec .genat s = .next g ∧
      exec .verifyat { g with cand := g.code, candLen := g.active.digits, window := window, status := acceptedStatus } =
        .next v ∧
      v.status.matched = true ∧ v.status.done = true ∧ v.status.err = false

/-- R272, window symmetry: with `WINDOW = 1` the code that `GENAT` leaves for
one period before or after the time, or for the time itself, is accepted where
that timestamp exists, and a candidate that is the code of none of the three is
rejected. -/
def Obligations.WindowSymmetry : Prop :=
  ∀ s : State, ActiveOk s.algAvail s.active → s.active.valid = true → s.window = 1 →
    (∀ (i : Int) (ts : Word64), -1 ≤ i → i ≤ 1 →
      (ts.toNat : Int) = (s.ts.toNat : Int) + i * (s.active.period.toNat : Int) →
      ∃ g v, exec .genat { s with ts := ts } = .next g ∧
        exec .verifyat { s with cand := g.code, candLen := s.active.digits } = .next v ∧
        v.status.matched = true) ∧
    ((∀ (i : Int) (ts : Word64), -1 ≤ i → i ≤ 1 →
        (ts.toNat : Int) = (s.ts.toNat : Int) + i * (s.active.period.toNat : Int) →
        s.cand.toList.take s.active.digits.toNat ≠ generateAt s.active ts.toNat) →
      ∃ v, exec .verifyat s = .next v ∧ v.status.matched = false)

/-- R269, R79: verification reveals one bit: two states that differ in the
secret and in the whole of the active configuration, but for its existence,
answer every bus read alike after `VERIFY` or `VERIFYAT` if their `MATCH` agrees. -/
def Obligations.VerifyRevealsOneBit : Prop :=
  ∀ (s : State) (key : Vector Byte 256) (a : ActiveConfig) (i : Instr),
    a.valid = s.active.valid → (i = .verify ∨ i = .verifyat) →
    ∃ t t', exec i s = .next t ∧ exec i { s with key := key, active := a } = .next t' ∧
      (t.status.matched = t'.status.matched → ∀ off time, regRead off time t = regRead off time t')

/-! The whole machine. -/

/-- R24, R35, R38, R43: every step keeps the invariant of the machine. -/
def Obligations.StepKeepsMachineInvariant : Prop :=
  ∀ s t : State, MachineInv s → step s = .next t → MachineInv t

/-- R48: the state after reset meets the invariant of the machine. -/
def Obligations.ResetMeetsMachineInvariant : Prop := MachineInv State.reset

/-- R43, R135: the active configuration changes only by a `CONFIGURE` whose
values are legal, which copies the staging registers, by `CLEAR` and by a reset;
and no step changes the parameter (assumption 1). -/
def Obligations.ActiveConfigurationIsImmutable : Prop :=
  ∀ s t : State, step s = .next t →
    t.algAvail = s.algAvail ∧
    (t.active = s.active ∨
      (∃ u, nextTurn s = .engine u ∧ u.cmdLatch = 0x00000001 ∧ ¬ badAlg s ∧ ¬ badField s ∧
        t.active.valid = true ∧ t.active.digits = s.cfgDigits ∧ algCode t.active.alg = s.cfgAlg.toNat ∧
        t.active.period = s.cfgPeriod ∧ t.active.keylen = s.cfgKeylen) ∨
      (∃ u, nextTurn s = .engine u ∧ u.cmdLatch = 0x00000002 ∧ t.active = ActiveConfig.reset) ∨
      (∃ rest, s.env.script = .reset :: rest ∧ t.active = ActiveConfig.reset))

/-- No step stops, and every run ends: once the environment has played its script
out, which takes one step for each of its turns and one more for the engine,
`BUSY = 0` and the state is final (70_reset_and_hazards.md section 5). The turns
may be resets too, and a reset abandons a command in progress (R331): the
statement does not say that every command completes. That the engine has the last
turn is the model's choice (assumption 3). -/
def Obligations.NoStepStopsAndRunsEnd : Prop :=
  (∀ s : State, ∃ t, step s = .next t) ∧
  (∀ s : State, ∃ t, Host.Core.run Sys2Proof.core (s.env.script.length + 1) s = .next t ∧
    t.status.busy = false ∧ t.env.script = [] ∧ step t = .next t)
end

