-- ==== Sys2Proof/Laws/Bytes.lean ====
section
/-!
SUPPORT. Lemmas about byte strings and byte buffers.
-/

namespace Sys2Proof.Machine

@[simp] theorem beBytes_length (n v : Nat) : (beBytes n v).length = n := by
  induction n with
  | zero => rfl
  | succ n ih => simp [beBytes, ih]

@[simp] theorem zeros_length (n : Nat) : (zeros n).length = n := by simp [zeros]

@[simp] theorem xorEach_length (b : Byte) (s : List Byte) : (xorEach b s).length = s.length := by
  simp [xorEach]

@[simp] theorem pieces_length (size n : Nat) (s : List Byte) : (pieces size n s).length = n := by
  induction n generalizing s with
  | zero => rfl
  | succ n ih => simp [pieces, ih]

theorem be_append (s t : List Byte) : be (s ++ t) = be s * 256 ^ t.length + be t := by
  induction t using List.reverseRecOn with
  | nil => simp [be]
  | append_singleton t b ih =>
    simp only [be, List.foldl_append, List.foldl_cons, List.foldl_nil, List.length_append,
      List.length_singleton, ← List.append_assoc, pow_succ] at ih ⊢
    rw [ih]
    ring

@[simp] theorem be_singleton (b : Byte) : be [b] = b.toNat := by simp [be]

theorem be_cons (b : Byte) (s : List Byte) : be (b :: s) = b.toNat * 256 ^ s.length + be s := by
  simpa using be_append [b] s

theorem be_lt (s : List Byte) : be s < 256 ^ s.length := by
  induction s with
  | nil => simp [be]
  | cons b s ih =>
    rw [be_cons, List.length_cons, pow_succ]
    have hb : b.toNat ≤ 255 := by have := b.isLt; omega
    have := Nat.mul_le_mul_right (256 ^ s.length) hb
    omega

/-- `be` is the inverse of `BE_n` (R10). -/
theorem be_beBytes (n v : Nat) : be (beBytes n v) = v % 256 ^ n := by
  induction n with
  | zero => simp [beBytes, be, Nat.mod_one]
  | succ n ih =>
    rw [beBytes, be_cons, ih, beBytes_length]
    have h8 : (2 : Nat) ^ (8 * n) = 256 ^ n := by rw [pow_mul]; norm_num
    rw [BitVec.toNat_ofNat, Nat.shiftRight_eq_div_pow, h8, show 2 ^ 8 = 256 from rfl,
      pow_succ, Nat.mod_mul (a := 256 ^ n), Nat.add_comm, Nat.mul_comm]

/-- A buffer made from a byte string holds it, and zeros after it. -/
theorem bufOf_toList {n : Nat} {s : List Byte} (h : s.length ≤ n) :
    (bufOf n s).toList = s ++ zeros (n - s.length) := by
  simp [bufOf, Vector.toList, zeros, List.take_of_length_le h]

theorem bufByte_bufOf {n : Nat} (s : List Byte) {k : Nat} (hk : k < n) :
    bufByte (bufOf n s) k = s.getD k 0 := by
  simp only [bufByte, bufOf, Vector.toList, List.getD_eq_getElem?_getD, List.getElem?_append,
    List.length_take]
  by_cases h : k < s.length
  · simp [show k < min n s.length by omega, h]
  · have h1 : ¬ k < min n s.length := by omega
    simp only [h1, if_false, List.getElem?_eq_none (not_lt.mp h), List.getElem?_replicate]
    split <;> simp

theorem bufByte_eq_getElem {n : Nat} (x : Vector Byte n) {k : Nat} (hk : k < n) : bufByte x k = x[k] := by
  simp [bufByte, List.getD_eq_getElem?_getD, hk]

/-- A write of word `j` stores its four bytes and leaves the others (R75). -/
theorem bufByte_bufSetWord {n : Nat} (x : Vector Byte n) {j k : Nat} (w : Word32) (hk : k < n) :
    bufByte (bufSetWord x j w) k =
      if k = 4 * j then w.extractLsb' 0 8
      else if k = 4 * j + 1 then w.extractLsb' 8 8
      else if k = 4 * j + 2 then w.extractLsb' 16 8
      else if k = 4 * j + 3 then w.extractLsb' 24 8
      else bufByte x k := by
  rw [bufByte_eq_getElem _ hk, bufByte_eq_getElem _ hk]
  simp only [bufSetWord, Vector.getElem_setIfInBounds]
  split_ifs <;> first | rfl | omega

/-- The lanes of a word of a buffer (R75). -/
theorem bufWord_lanes {n : Nat} (x : Vector Byte n) (j : Nat) :
    (bufWord x j).extractLsb' 0 8 = bufByte x (4 * j) ∧
    (bufWord x j).extractLsb' 8 8 = bufByte x (4 * j + 1) ∧
    (bufWord x j).extractLsb' 16 8 = bufByte x (4 * j + 2) ∧
    (bufWord x j).extractLsb' 24 8 = bufByte x (4 * j + 3) := by
  refine ⟨?_, ?_, ?_, ?_⟩ <;> ext i hi <;>
    simp only [bufWord, BitVec.getElem_extractLsb', BitVec.getLsbD_setWidth, BitVec.getLsbD_append] <;>
    interval_cases i <;> simp [← BitVec.getLsbD_eq_getElem]

@[simp] theorem loWord_joinWords (hi lo : Word32) : loWord (joinWords hi lo) = lo := by
  ext i h
  simp only [loWord, joinWords, BitVec.getElem_extractLsb', BitVec.getLsbD_setWidth, BitVec.getLsbD_append]
  simp [h, show i < 64 by omega]

@[simp] theorem hiWord_joinWords (hi lo : Word32) : hiWord (joinWords hi lo) = hi := by
  ext i h
  simp only [hiWord, joinWords, BitVec.getElem_extractLsb', BitVec.getLsbD_setWidth, BitVec.getLsbD_append]
  simp [h, show 32 + i < 64 by omega]

end Sys2Proof.Machine
end

