-- ==== Sys2Proof/Laws/State.lean ====
section
/-!
SUPPORT. One lemma per field and per update of the state, each true by `rfl`, so
that no proof unfolds a record update.
-/

namespace Sys2Proof.Machine

variable (s : State)

/-! `raiseErr` -/

@[simp] theorem raiseErr_status (c : ErrCode) : (raiseErr c s).status = { s.status with busy := false, err := true, errCode := c } := rfl
@[simp] theorem raiseErr_cfgDigits (c : ErrCode) : (raiseErr c s).cfgDigits = s.cfgDigits := rfl
@[simp] theorem raiseErr_cfgAlg (c : ErrCode) : (raiseErr c s).cfgAlg = s.cfgAlg := rfl
@[simp] theorem raiseErr_cfgPeriod (c : ErrCode) : (raiseErr c s).cfgPeriod = s.cfgPeriod := rfl
@[simp] theorem raiseErr_cfgKeylen (c : ErrCode) : (raiseErr c s).cfgKeylen = s.cfgKeylen := rfl
@[simp] theorem raiseErr_window (c : ErrCode) : (raiseErr c s).window = s.window := rfl
@[simp] theorem raiseErr_candLen (c : ErrCode) : (raiseErr c s).candLen = s.candLen := rfl
@[simp] theorem raiseErr_ts (c : ErrCode) : (raiseErr c s).ts = s.ts := rfl
@[simp] theorem raiseErr_ctr (c : ErrCode) : (raiseErr c s).ctr = s.ctr := rfl
@[simp] theorem raiseErr_tused (c : ErrCode) : (raiseErr c s).tused = s.tused := rfl
@[simp] theorem raiseErr_cand (c : ErrCode) : (raiseErr c s).cand = s.cand := rfl
@[simp] theorem raiseErr_code (c : ErrCode) : (raiseErr c s).code = s.code := rfl
@[simp] theorem raiseErr_key (c : ErrCode) : (raiseErr c s).key = s.key := rfl
@[simp] theorem raiseErr_digest (c : ErrCode) : (raiseErr c s).digest = s.digest := rfl
@[simp] theorem raiseErr_binary (c : ErrCode) : (raiseErr c s).binary = s.binary := rfl
@[simp] theorem raiseErr_cmdLatch (c : ErrCode) : (raiseErr c s).cmdLatch = s.cmdLatch := rfl
@[simp] theorem raiseErr_tSample (c : ErrCode) : (raiseErr c s).tSample = s.tSample := rfl
@[simp] theorem raiseErr_active (c : ErrCode) : (raiseErr c s).active = s.active := rfl
@[simp] theorem raiseErr_algAvail (c : ErrCode) : (raiseErr c s).algAvail = s.algAvail := rfl
@[simp] theorem raiseErr_env (c : ErrCode) : (raiseErr c s).env = s.env := rfl

/-! `complete` -/

@[simp] theorem complete_status : (complete s).status = { s.status with busy := false, done := true } := rfl
@[simp] theorem complete_cfgDigits : (complete s).cfgDigits = s.cfgDigits := rfl
@[simp] theorem complete_cfgAlg : (complete s).cfgAlg = s.cfgAlg := rfl
@[simp] theorem complete_cfgPeriod : (complete s).cfgPeriod = s.cfgPeriod := rfl
@[simp] theorem complete_cfgKeylen : (complete s).cfgKeylen = s.cfgKeylen := rfl
@[simp] theorem complete_window : (complete s).window = s.window := rfl
@[simp] theorem complete_candLen : (complete s).candLen = s.candLen := rfl
@[simp] theorem complete_ts : (complete s).ts = s.ts := rfl
@[simp] theorem complete_ctr : (complete s).ctr = s.ctr := rfl
@[simp] theorem complete_tused : (complete s).tused = s.tused := rfl
@[simp] theorem complete_cand : (complete s).cand = s.cand := rfl
@[simp] theorem complete_code : (complete s).code = s.code := rfl
@[simp] theorem complete_key : (complete s).key = s.key := rfl
@[simp] theorem complete_digest : (complete s).digest = s.digest := rfl
@[simp] theorem complete_binary : (complete s).binary = s.binary := rfl
@[simp] theorem complete_cmdLatch : (complete s).cmdLatch = s.cmdLatch := rfl
@[simp] theorem complete_tSample : (complete s).tSample = s.tSample := rfl
@[simp] theorem complete_active : (complete s).active = s.active := rfl
@[simp] theorem complete_algAvail : (complete s).algAvail = s.algAvail := rfl
@[simp] theorem complete_env : (complete s).env = s.env := rfl

/-! `accept` -/

@[simp] theorem accept_status (data : Word32) (time : Word64) : (accept data time s).status = acceptedStatus := rfl
@[simp] theorem accept_cfgDigits (data : Word32) (time : Word64) : (accept data time s).cfgDigits = s.cfgDigits := rfl
@[simp] theorem accept_cfgAlg (data : Word32) (time : Word64) : (accept data time s).cfgAlg = s.cfgAlg := rfl
@[simp] theorem accept_cfgPeriod (data : Word32) (time : Word64) : (accept data time s).cfgPeriod = s.cfgPeriod := rfl
@[simp] theorem accept_cfgKeylen (data : Word32) (time : Word64) : (accept data time s).cfgKeylen = s.cfgKeylen := rfl
@[simp] theorem accept_window (data : Word32) (time : Word64) : (accept data time s).window = s.window := rfl
@[simp] theorem accept_candLen (data : Word32) (time : Word64) : (accept data time s).candLen = s.candLen := rfl
@[simp] theorem accept_ts (data : Word32) (time : Word64) : (accept data time s).ts = s.ts := rfl
@[simp] theorem accept_ctr (data : Word32) (time : Word64) : (accept data time s).ctr = s.ctr := rfl
@[simp] theorem accept_tused (data : Word32) (time : Word64) : (accept data time s).tused = s.tused := rfl
@[simp] theorem accept_cand (data : Word32) (time : Word64) : (accept data time s).cand = s.cand := rfl
@[simp] theorem accept_code (data : Word32) (time : Word64) : (accept data time s).code = s.code := rfl
@[simp] theorem accept_key (data : Word32) (time : Word64) : (accept data time s).key = s.key := rfl
@[simp] theorem accept_digest (data : Word32) (time : Word64) : (accept data time s).digest = s.digest := rfl
@[simp] theorem accept_binary (data : Word32) (time : Word64) : (accept data time s).binary = s.binary := rfl
@[simp] theorem accept_cmdLatch (data : Word32) (time : Word64) : (accept data time s).cmdLatch = data := rfl
@[simp] theorem accept_tSample (data : Word32) (time : Word64) : (accept data time s).tSample = time := rfl
@[simp] theorem accept_active (data : Word32) (time : Word64) : (accept data time s).active = s.active := rfl
@[simp] theorem accept_algAvail (data : Word32) (time : Word64) : (accept data time s).algAvail = s.algAvail := rfl
@[simp] theorem accept_env (data : Word32) (time : Word64) : (accept data time s).env = s.env := rfl

/-! `withScript` -/

@[simp] theorem withScript_status (script : List Event) : (withScript script s).status = s.status := rfl
@[simp] theorem withScript_cfgDigits (script : List Event) : (withScript script s).cfgDigits = s.cfgDigits := rfl
@[simp] theorem withScript_cfgAlg (script : List Event) : (withScript script s).cfgAlg = s.cfgAlg := rfl
@[simp] theorem withScript_cfgPeriod (script : List Event) : (withScript script s).cfgPeriod = s.cfgPeriod := rfl
@[simp] theorem withScript_cfgKeylen (script : List Event) : (withScript script s).cfgKeylen = s.cfgKeylen := rfl
@[simp] theorem withScript_window (script : List Event) : (withScript script s).window = s.window := rfl
@[simp] theorem withScript_candLen (script : List Event) : (withScript script s).candLen = s.candLen := rfl
@[simp] theorem withScript_ts (script : List Event) : (withScript script s).ts = s.ts := rfl
@[simp] theorem withScript_ctr (script : List Event) : (withScript script s).ctr = s.ctr := rfl
@[simp] theorem withScript_tused (script : List Event) : (withScript script s).tused = s.tused := rfl
@[simp] theorem withScript_cand (script : List Event) : (withScript script s).cand = s.cand := rfl
@[simp] theorem withScript_code (script : List Event) : (withScript script s).code = s.code := rfl
@[simp] theorem withScript_key (script : List Event) : (withScript script s).key = s.key := rfl
@[simp] theorem withScript_digest (script : List Event) : (withScript script s).digest = s.digest := rfl
@[simp] theorem withScript_binary (script : List Event) : (withScript script s).binary = s.binary := rfl
@[simp] theorem withScript_cmdLatch (script : List Event) : (withScript script s).cmdLatch = s.cmdLatch := rfl
@[simp] theorem withScript_tSample (script : List Event) : (withScript script s).tSample = s.tSample := rfl
@[simp] theorem withScript_active (script : List Event) : (withScript script s).active = s.active := rfl
@[simp] theorem withScript_algAvail (script : List Event) : (withScript script s).algAvail = s.algAvail := rfl
@[simp] theorem withScript_env (script : List Event) : (withScript script s).env = { s.env with script := script } := rfl

/-! `withReply` -/

@[simp] theorem withReply_status (r : Reply) : (withReply r s).status = s.status := rfl
@[simp] theorem withReply_cfgDigits (r : Reply) : (withReply r s).cfgDigits = s.cfgDigits := rfl
@[simp] theorem withReply_cfgAlg (r : Reply) : (withReply r s).cfgAlg = s.cfgAlg := rfl
@[simp] theorem withReply_cfgPeriod (r : Reply) : (withReply r s).cfgPeriod = s.cfgPeriod := rfl
@[simp] theorem withReply_cfgKeylen (r : Reply) : (withReply r s).cfgKeylen = s.cfgKeylen := rfl
@[simp] theorem withReply_window (r : Reply) : (withReply r s).window = s.window := rfl
@[simp] theorem withReply_candLen (r : Reply) : (withReply r s).candLen = s.candLen := rfl
@[simp] theorem withReply_ts (r : Reply) : (withReply r s).ts = s.ts := rfl
@[simp] theorem withReply_ctr (r : Reply) : (withReply r s).ctr = s.ctr := rfl
@[simp] theorem withReply_tused (r : Reply) : (withReply r s).tused = s.tused := rfl
@[simp] theorem withReply_cand (r : Reply) : (withReply r s).cand = s.cand := rfl
@[simp] theorem withReply_code (r : Reply) : (withReply r s).code = s.code := rfl
@[simp] theorem withReply_key (r : Reply) : (withReply r s).key = s.key := rfl
@[simp] theorem withReply_digest (r : Reply) : (withReply r s).digest = s.digest := rfl
@[simp] theorem withReply_binary (r : Reply) : (withReply r s).binary = s.binary := rfl
@[simp] theorem withReply_cmdLatch (r : Reply) : (withReply r s).cmdLatch = s.cmdLatch := rfl
@[simp] theorem withReply_tSample (r : Reply) : (withReply r s).tSample = s.tSample := rfl
@[simp] theorem withReply_active (r : Reply) : (withReply r s).active = s.active := rfl
@[simp] theorem withReply_algAvail (r : Reply) : (withReply r s).algAvail = s.algAvail := rfl
@[simp] theorem withReply_env (r : Reply) : (withReply r s).env = { s.env with replies := r :: s.env.replies } := rfl

/-! `setDigest` -/

@[simp] theorem setDigest_status (h : List Byte) : (setDigest h s).status = s.status := rfl
@[simp] theorem setDigest_cfgDigits (h : List Byte) : (setDigest h s).cfgDigits = s.cfgDigits := rfl
@[simp] theorem setDigest_cfgAlg (h : List Byte) : (setDigest h s).cfgAlg = s.cfgAlg := rfl
@[simp] theorem setDigest_cfgPeriod (h : List Byte) : (setDigest h s).cfgPeriod = s.cfgPeriod := rfl
@[simp] theorem setDigest_cfgKeylen (h : List Byte) : (setDigest h s).cfgKeylen = s.cfgKeylen := rfl
@[simp] theorem setDigest_window (h : List Byte) : (setDigest h s).window = s.window := rfl
@[simp] theorem setDigest_candLen (h : List Byte) : (setDigest h s).candLen = s.candLen := rfl
@[simp] theorem setDigest_ts (h : List Byte) : (setDigest h s).ts = s.ts := rfl
@[simp] theorem setDigest_ctr (h : List Byte) : (setDigest h s).ctr = s.ctr := rfl
@[simp] theorem setDigest_tused (h : List Byte) : (setDigest h s).tused = s.tused := rfl
@[simp] theorem setDigest_cand (h : List Byte) : (setDigest h s).cand = s.cand := rfl
@[simp] theorem setDigest_code (h : List Byte) : (setDigest h s).code = s.code := rfl
@[simp] theorem setDigest_key (h : List Byte) : (setDigest h s).key = s.key := rfl
@[simp] theorem setDigest_digest (h : List Byte) : (setDigest h s).digest = bufOf 64 h := rfl
@[simp] theorem setDigest_binary (h : List Byte) : (setDigest h s).binary = s.binary := rfl
@[simp] theorem setDigest_cmdLatch (h : List Byte) : (setDigest h s).cmdLatch = s.cmdLatch := rfl
@[simp] theorem setDigest_tSample (h : List Byte) : (setDigest h s).tSample = s.tSample := rfl
@[simp] theorem setDigest_active (h : List Byte) : (setDigest h s).active = s.active := rfl
@[simp] theorem setDigest_algAvail (h : List Byte) : (setDigest h s).algAvail = s.algAvail := rfl
@[simp] theorem setDigest_env (h : List Byte) : (setDigest h s).env = s.env := rfl

/-! `setCode` -/

@[simp] theorem setCode_status (b : Word32) (c : List Byte) : (setCode b c s).status = s.status := rfl
@[simp] theorem setCode_cfgDigits (b : Word32) (c : List Byte) : (setCode b c s).cfgDigits = s.cfgDigits := rfl
@[simp] theorem setCode_cfgAlg (b : Word32) (c : List Byte) : (setCode b c s).cfgAlg = s.cfgAlg := rfl
@[simp] theorem setCode_cfgPeriod (b : Word32) (c : List Byte) : (setCode b c s).cfgPeriod = s.cfgPeriod := rfl
@[simp] theorem setCode_cfgKeylen (b : Word32) (c : List Byte) : (setCode b c s).cfgKeylen = s.cfgKeylen := rfl
@[simp] theorem setCode_window (b : Word32) (c : List Byte) : (setCode b c s).window = s.window := rfl
@[simp] theorem setCode_candLen (b : Word32) (c : List Byte) : (setCode b c s).candLen = s.candLen := rfl
@[simp] theorem setCode_ts (b : Word32) (c : List Byte) : (setCode b c s).ts = s.ts := rfl
@[simp] theorem setCode_ctr (b : Word32) (c : List Byte) : (setCode b c s).ctr = s.ctr := rfl
@[simp] theorem setCode_tused (b : Word32) (c : List Byte) : (setCode b c s).tused = s.tused := rfl
@[simp] theorem setCode_cand (b : Word32) (c : List Byte) : (setCode b c s).cand = s.cand := rfl
@[simp] theorem setCode_code (b : Word32) (c : List Byte) : (setCode b c s).code = bufOf 16 c := rfl
@[simp] theorem setCode_key (b : Word32) (c : List Byte) : (setCode b c s).key = s.key := rfl
@[simp] theorem setCode_digest (b : Word32) (c : List Byte) : (setCode b c s).digest = s.digest := rfl
@[simp] theorem setCode_binary (b : Word32) (c : List Byte) : (setCode b c s).binary = b := rfl
@[simp] theorem setCode_cmdLatch (b : Word32) (c : List Byte) : (setCode b c s).cmdLatch = s.cmdLatch := rfl
@[simp] theorem setCode_tSample (b : Word32) (c : List Byte) : (setCode b c s).tSample = s.tSample := rfl
@[simp] theorem setCode_active (b : Word32) (c : List Byte) : (setCode b c s).active = s.active := rfl
@[simp] theorem setCode_algAvail (b : Word32) (c : List Byte) : (setCode b c s).algAvail = s.algAvail := rfl
@[simp] theorem setCode_env (b : Word32) (c : List Byte) : (setCode b c s).env = s.env := rfl

/-! `setTused` -/

@[simp] theorem setTused_status (t : Word64) : (setTused t s).status = s.status := rfl
@[simp] theorem setTused_cfgDigits (t : Word64) : (setTused t s).cfgDigits = s.cfgDigits := rfl
@[simp] theorem setTused_cfgAlg (t : Word64) : (setTused t s).cfgAlg = s.cfgAlg := rfl
@[simp] theorem setTused_cfgPeriod (t : Word64) : (setTused t s).cfgPeriod = s.cfgPeriod := rfl
@[simp] theorem setTused_cfgKeylen (t : Word64) : (setTused t s).cfgKeylen = s.cfgKeylen := rfl
@[simp] theorem setTused_window (t : Word64) : (setTused t s).window = s.window := rfl
@[simp] theorem setTused_candLen (t : Word64) : (setTused t s).candLen = s.candLen := rfl
@[simp] theorem setTused_ts (t : Word64) : (setTused t s).ts = s.ts := rfl
@[simp] theorem setTused_ctr (t : Word64) : (setTused t s).ctr = s.ctr := rfl
@[simp] theorem setTused_tused (t : Word64) : (setTused t s).tused = t := rfl
@[simp] theorem setTused_cand (t : Word64) : (setTused t s).cand = s.cand := rfl
@[simp] theorem setTused_code (t : Word64) : (setTused t s).code = s.code := rfl
@[simp] theorem setTused_key (t : Word64) : (setTused t s).key = s.key := rfl
@[simp] theorem setTused_digest (t : Word64) : (setTused t s).digest = s.digest := rfl
@[simp] theorem setTused_binary (t : Word64) : (setTused t s).binary = s.binary := rfl
@[simp] theorem setTused_cmdLatch (t : Word64) : (setTused t s).cmdLatch = s.cmdLatch := rfl
@[simp] theorem setTused_tSample (t : Word64) : (setTused t s).tSample = s.tSample := rfl
@[simp] theorem setTused_active (t : Word64) : (setTused t s).active = s.active := rfl
@[simp] theorem setTused_algAvail (t : Word64) : (setTused t s).algAvail = s.algAvail := rfl
@[simp] theorem setTused_env (t : Word64) : (setTused t s).env = s.env := rfl

/-! `setCtr` -/

@[simp] theorem setCtr_status (c : Word64) : (setCtr c s).status = s.status := rfl
@[simp] theorem setCtr_cfgDigits (c : Word64) : (setCtr c s).cfgDigits = s.cfgDigits := rfl
@[simp] theorem setCtr_cfgAlg (c : Word64) : (setCtr c s).cfgAlg = s.cfgAlg := rfl
@[simp] theorem setCtr_cfgPeriod (c : Word64) : (setCtr c s).cfgPeriod = s.cfgPeriod := rfl
@[simp] theorem setCtr_cfgKeylen (c : Word64) : (setCtr c s).cfgKeylen = s.cfgKeylen := rfl
@[simp] theorem setCtr_window (c : Word64) : (setCtr c s).window = s.window := rfl
@[simp] theorem setCtr_candLen (c : Word64) : (setCtr c s).candLen = s.candLen := rfl
@[simp] theorem setCtr_ts (c : Word64) : (setCtr c s).ts = s.ts := rfl
@[simp] theorem setCtr_ctr (c : Word64) : (setCtr c s).ctr = c := rfl
@[simp] theorem setCtr_tused (c : Word64) : (setCtr c s).tused = s.tused := rfl
@[simp] theorem setCtr_cand (c : Word64) : (setCtr c s).cand = s.cand := rfl
@[simp] theorem setCtr_code (c : Word64) : (setCtr c s).code = s.code := rfl
@[simp] theorem setCtr_key (c : Word64) : (setCtr c s).key = s.key := rfl
@[simp] theorem setCtr_digest (c : Word64) : (setCtr c s).digest = s.digest := rfl
@[simp] theorem setCtr_binary (c : Word64) : (setCtr c s).binary = s.binary := rfl
@[simp] theorem setCtr_cmdLatch (c : Word64) : (setCtr c s).cmdLatch = s.cmdLatch := rfl
@[simp] theorem setCtr_tSample (c : Word64) : (setCtr c s).tSample = s.tSample := rfl
@[simp] theorem setCtr_active (c : Word64) : (setCtr c s).active = s.active := rfl
@[simp] theorem setCtr_algAvail (c : Word64) : (setCtr c s).algAvail = s.algAvail := rfl
@[simp] theorem setCtr_env (c : Word64) : (setCtr c s).env = s.env := rfl

/-! `setMatched` -/

@[simp] theorem setMatched_status (b : Bool) : (setMatched b s).status = { s.status with matched := b } := rfl
@[simp] theorem setMatched_cfgDigits (b : Bool) : (setMatched b s).cfgDigits = s.cfgDigits := rfl
@[simp] theorem setMatched_cfgAlg (b : Bool) : (setMatched b s).cfgAlg = s.cfgAlg := rfl
@[simp] theorem setMatched_cfgPeriod (b : Bool) : (setMatched b s).cfgPeriod = s.cfgPeriod := rfl
@[simp] theorem setMatched_cfgKeylen (b : Bool) : (setMatched b s).cfgKeylen = s.cfgKeylen := rfl
@[simp] theorem setMatched_window (b : Bool) : (setMatched b s).window = s.window := rfl
@[simp] theorem setMatched_candLen (b : Bool) : (setMatched b s).candLen = s.candLen := rfl
@[simp] theorem setMatched_ts (b : Bool) : (setMatched b s).ts = s.ts := rfl
@[simp] theorem setMatched_ctr (b : Bool) : (setMatched b s).ctr = s.ctr := rfl
@[simp] theorem setMatched_tused (b : Bool) : (setMatched b s).tused = s.tused := rfl
@[simp] theorem setMatched_cand (b : Bool) : (setMatched b s).cand = s.cand := rfl
@[simp] theorem setMatched_code (b : Bool) : (setMatched b s).code = s.code := rfl
@[simp] theorem setMatched_key (b : Bool) : (setMatched b s).key = s.key := rfl
@[simp] theorem setMatched_digest (b : Bool) : (setMatched b s).digest = s.digest := rfl
@[simp] theorem setMatched_binary (b : Bool) : (setMatched b s).binary = s.binary := rfl
@[simp] theorem setMatched_cmdLatch (b : Bool) : (setMatched b s).cmdLatch = s.cmdLatch := rfl
@[simp] theorem setMatched_tSample (b : Bool) : (setMatched b s).tSample = s.tSample := rfl
@[simp] theorem setMatched_active (b : Bool) : (setMatched b s).active = s.active := rfl
@[simp] theorem setMatched_algAvail (b : Bool) : (setMatched b s).algAvail = s.algAvail := rfl
@[simp] theorem setMatched_env (b : Bool) : (setMatched b s).env = s.env := rfl

/-! `commit` -/

@[simp] theorem commit_status (a : HashAlg) : (commit a s).status = s.status := rfl
@[simp] theorem commit_cfgDigits (a : HashAlg) : (commit a s).cfgDigits = s.cfgDigits := rfl
@[simp] theorem commit_cfgAlg (a : HashAlg) : (commit a s).cfgAlg = s.cfgAlg := rfl
@[simp] theorem commit_cfgPeriod (a : HashAlg) : (commit a s).cfgPeriod = s.cfgPeriod := rfl
@[simp] theorem commit_cfgKeylen (a : HashAlg) : (commit a s).cfgKeylen = s.cfgKeylen := rfl
@[simp] theorem commit_window (a : HashAlg) : (commit a s).window = s.window := rfl
@[simp] theorem commit_candLen (a : HashAlg) : (commit a s).candLen = s.candLen := rfl
@[simp] theorem commit_ts (a : HashAlg) : (commit a s).ts = s.ts := rfl
@[simp] theorem commit_ctr (a : HashAlg) : (commit a s).ctr = s.ctr := rfl
@[simp] theorem commit_tused (a : HashAlg) : (commit a s).tused = s.tused := rfl
@[simp] theorem commit_cand (a : HashAlg) : (commit a s).cand = s.cand := rfl
@[simp] theorem commit_code (a : HashAlg) : (commit a s).code = s.code := rfl
@[simp] theorem commit_key (a : HashAlg) : (commit a s).key = s.key := rfl
@[simp] theorem commit_digest (a : HashAlg) : (commit a s).digest = s.digest := rfl
@[simp] theorem commit_binary (a : HashAlg) : (commit a s).binary = s.binary := rfl
@[simp] theorem commit_cmdLatch (a : HashAlg) : (commit a s).cmdLatch = s.cmdLatch := rfl
@[simp] theorem commit_tSample (a : HashAlg) : (commit a s).tSample = s.tSample := rfl
@[simp] theorem commit_active (a : HashAlg) : (commit a s).active = stagedConfig a s := rfl
@[simp] theorem commit_algAvail (a : HashAlg) : (commit a s).algAvail = s.algAvail := rfl
@[simp] theorem commit_env (a : HashAlg) : (commit a s).env = s.env := rfl

/-! `hwReset` -/

@[simp] theorem hwReset_status : (hwReset s).status = Status.reset := rfl
@[simp] theorem hwReset_cfgDigits : (hwReset s).cfgDigits = 0 := rfl
@[simp] theorem hwReset_cfgAlg : (hwReset s).cfgAlg = 0 := rfl
@[simp] theorem hwReset_cfgPeriod : (hwReset s).cfgPeriod = 0 := rfl
@[simp] theorem hwReset_cfgKeylen : (hwReset s).cfgKeylen = 0 := rfl
@[simp] theorem hwReset_window : (hwReset s).window = Config.windowReset := rfl
@[simp] theorem hwReset_candLen : (hwReset s).candLen = 0 := rfl
@[simp] theorem hwReset_ts : (hwReset s).ts = 0 := rfl
@[simp] theorem hwReset_ctr : (hwReset s).ctr = 0 := rfl
@[simp] theorem hwReset_tused : (hwReset s).tused = 0 := rfl
@[simp] theorem hwReset_cand : (hwReset s).cand = Vector.replicate 16 0 := rfl
@[simp] theorem hwReset_code : (hwReset s).code = Vector.replicate 16 0 := rfl
@[simp] theorem hwReset_key : (hwReset s).key = Vector.replicate 256 0 := rfl
@[simp] theorem hwReset_digest : (hwReset s).digest = Vector.replicate 64 0 := rfl
@[simp] theorem hwReset_binary : (hwReset s).binary = 0 := rfl
@[simp] theorem hwReset_cmdLatch : (hwReset s).cmdLatch = 0 := rfl
@[simp] theorem hwReset_tSample : (hwReset s).tSample = 0 := rfl
@[simp] theorem hwReset_active : (hwReset s).active = ActiveConfig.reset := rfl
@[simp] theorem hwReset_algAvail : (hwReset s).algAvail = s.algAvail := rfl
@[simp] theorem hwReset_env : (hwReset s).env = s.env := rfl

end Sys2Proof.Machine
end

