-- ==== Sys2Proof/Laws/Ops.lean ====
section
/-!
SUPPORT. What each shared operation can do, said once: the frame of a compute
command, `CONFIGURE`, the bus, the turn of a step and the step.
-/

namespace Sys2Proof.Machine

/-- A compute command with an active configuration does its writes and completes. -/
theorem computeFrame_valid {effect : State → State} {s : State} (h : s.active.valid = true) :
    computeFrame effect s = .next (complete (effect s)) := by
  simp [computeFrame, h]

/-- A compute command with no active configuration raises `NO_CONFIGURATION`. -/
theorem computeFrame_invalid {effect : State → State} {s : State} (h : s.active.valid = false) :
    computeFrame effect s = .next (raiseErr .noConfiguration s) := by
  simp [computeFrame, h]

/-- Everything the frame of a compute command can answer. -/
theorem computeFrame_cases (effect : State → State) (s : State) :
    (s.active.valid = true ∧ computeFrame effect s = .next (complete (effect s))) ∨
    (s.active.valid = false ∧ computeFrame effect s = .next (raiseErr .noConfiguration s)) := by
  cases h : s.active.valid
  · exact .inr ⟨rfl, computeFrame_invalid h⟩
  · exact .inl ⟨rfl, computeFrame_valid h⟩

/-- Everything `CONFIGURE` can answer. -/
theorem execConfigure_cases (s : State) :
    (∃ c, validate s.algAvail s.cfgAlg s.cfgDigits s.cfgPeriod s.cfgKeylen = .error c ∧
      execConfigure s = .next (raiseErr c s)) ∨
    (∃ a, validate s.algAvail s.cfgAlg s.cfgDigits s.cfgPeriod s.cfgKeylen = .ok a ∧
      execConfigure s = .next (complete (commit a s))) := by
  cases h : validate s.algAvail s.cfgAlg s.cfgDigits s.cfgPeriod s.cfgKeylen with
  | error c => exact .inl ⟨c, rfl, by simp [execConfigure, h]⟩
  | ok a => exact .inr ⟨a, rfl, by simp [execConfigure, h]⟩

/-- Everything a bus write can do. -/
theorem regWrite_cases (off : Nat) (data : Word32) (time : Word64) (s : State) :
    regWrite off data time s = (s, .busErr) ∨
    (s.status.busy = false ∧ ∃ r t, regAt off = some r ∧ regStore r data time s = some t ∧
      regWrite off data time s = (t, .ack)) := by
  cases hr : regAt off with
  | none => exact .inl (by simp [regWrite, hr])
  | some r =>
    cases hb : s.status.busy with
    | true => exact .inl (by simp [regWrite, hr, hb])
    | false =>
      cases ht : regStore r data time s with
      | none => exact .inl (by simp [regWrite, hr, hb, ht])
      | some t => exact .inr ⟨rfl, r, t, rfl, ht, by simp [regWrite, hr, hb, ht]⟩

/-- A bus write reaches neither the active configuration, the parameter, the
environment, nor a result register other than `CTR`. -/
theorem regStore_keeps {r : Reg} {data : Word32} {time : Word64} {s t : State}
    (h : regStore r data time s = some t) :
    t.active = s.active ∧ t.algAvail = s.algAvail ∧ t.env = s.env ∧ t.tused = s.tused ∧
      t.code = s.code ∧ t.digest = s.digest ∧ t.binary = s.binary ∧
      (t.status = s.status ∨ t.status = acceptedStatus) := by
  cases r <;> simp [regStore] at h <;> subst h <;> simp

/-- A bus write takes no notice of the script. -/
theorem regWrite_withScript (off : Nat) (data : Word32) (time : Word64) (script : List Event) (s : State) :
    regWrite off data time (withScript script s) =
      (withScript script (regWrite off data time s).1, (regWrite off data time s).2) := by
  have hstore : ∀ r, regStore r data time (withScript script s) = (regStore r data time s).map (withScript script) := by
    intro r; cases r <;> rfl
  unfold regWrite
  cases regAt off with
  | none => rfl
  | some r =>
    simp only [withScript_status, hstore]
    cases s.status.busy <;> simp
    cases regStore r data time s <;> rfl

/-- A bus write leaves the environment. -/
theorem regWrite_env (off : Nat) (data : Word32) (time : Word64) (s : State) :
    (regWrite off data time s).1.env = s.env := by
  rcases regWrite_cases off data time s with h | ⟨-, r, t, -, ht, h⟩
  · rw [h]
  · rw [h]; exact (regStore_keeps ht).2.2.1

/-- Whose turn a step is. -/
theorem nextTurn_cases (s : State) :
    (s.status.busy = true ∧ s.env.script = [] ∧ nextTurn s = .engine s) ∨
    (s.status.busy = false ∧ s.env.script = [] ∧ nextTurn s = .settled s) ∨
    (∃ rest, s.status.busy = true ∧ s.env.script = .engine :: rest ∧
      nextTurn s = .engine (withScript rest s)) ∨
    (∃ rest, s.status.busy = false ∧ s.env.script = .engine :: rest ∧
      nextTurn s = .settled (withScript rest s)) ∨
    (∃ op time rest, s.env.script = .bus op time :: rest ∧
      nextTurn s = .settled (busStep op time (withScript rest s))) ∨
    (∃ rest, s.env.script = .reset :: rest ∧ nextTurn s = .settled (hwReset (withScript rest s))) := by
  cases hs : s.env.script with
  | nil =>
    cases hb : s.status.busy
    · exact .inr (.inl ⟨rfl, rfl, by simp [nextTurn, engineTurn, hs, hb]⟩)
    · exact .inl ⟨rfl, rfl, by simp [nextTurn, engineTurn, hs, hb]⟩
  | cons e rest =>
    cases e with
    | bus op time => exact .inr (.inr (.inr (.inr (.inl ⟨op, time, rest, rfl, by simp [nextTurn, hs]⟩))))
    | reset => exact .inr (.inr (.inr (.inr (.inr ⟨rest, rfl, by simp [nextTurn, hs]⟩))))
    | engine =>
      cases hb : s.status.busy
      · exact .inr (.inr (.inr (.inl ⟨rest, rfl, rfl, by simp [nextTurn, engineTurn, hs, hb]⟩)))
      · exact .inr (.inr (.inl ⟨rest, rfl, rfl, by simp [nextTurn, engineTurn, hs, hb]⟩))

/-- A turn that is the engine's is one with a command in progress, and only the
script has moved on. -/
theorem nextTurn_engine {s u : State} (h : nextTurn s = .engine u) :
    s.status.busy = true ∧ ∃ script, u = withScript script s := by
  obtain ⟨hb, -, ht⟩ | ⟨-, -, ht⟩ | ⟨rest, hb, -, ht⟩ | ⟨rest, -, -, ht⟩ | ⟨op, time, rest, -, ht⟩ | ⟨rest, -, ht⟩ :=
    nextTurn_cases s
  all_goals rw [ht] at h
  all_goals cases h
  · exact ⟨hb, s.env.script, rfl⟩
  · exact ⟨hb, rest, rfl⟩

/-- A step of the engine's turn is the engine step. -/
theorem step_engine {s u : State} (h : nextTurn s = .engine u) : step s = engineStep u := by
  simp [step, h]

/-- A step of any other turn is over with the state it leaves. -/
theorem step_settled {s u : State} (h : nextTurn s = .settled u) : step s = .next u := by
  simp [step, h]

end Sys2Proof.Machine
end

