-- ==== Sys2Proof/Laws/Units.lean ====
section
/-!
SUPPORT. Lemmas about the function units: truncation, comparator and window loop.
-/

namespace Sys2Proof.Machine

@[simp] theorem render_length (v d : Nat) : (render v d).length = d := by simp [render]

@[simp] theorem truncate_length (h : List Byte) (d : Nat) : (truncate h d).length = d := by simp [truncate]

@[simp] theorem computeCode_length (secret : List Byte) (c d : Nat) (alg : HashAlg) :
    (computeCode secret c d alg).length = d := by simp [computeCode]

theorem render_getD {v d k : Nat} (hk : k < d) :
    (render v d).getD k 0 = 0x30 + BitVec.ofNat 8 (v / 10 ^ (d - 1 - k) % 10) := by
  simp [render, List.getD_eq_getElem?_getD, hk]

theorem truncOtp_lt (b : Word32) (d : Nat) : truncOtp b d < 10 ^ d := Nat.mod_lt _ (by positivity)

/-- One more byte pair: the accumulator stays 0 exactly when the pair is equal. -/
theorem compareBytes_acc_succ (a b : List Byte) (n : Nat) :
    (compareBytes a b (n + 1)).acc = 0 ↔ (compareBytes a b n).acc = 0 ∧ a.getD n 0 = b.getD n 0 := by
  simp [compareBytes, BitVec.or_eq_zero_iff, BitVec.xor_eq_zero_iff]

/-- The window loop hits exactly when one of its offsets does. -/
theorem anyOffset_iff (hit : Int → Bool) (w n : Nat) :
    anyOffset hit w n = true ↔ ∃ k < n, hit ((k : Int) - (w : Int)) = true := by
  induction n with
  | zero => simp [anyOffset]
  | succ n ih =>
    simp only [anyOffset, Bool.or_eq_true, ih, Nat.lt_succ_iff_lt_or_eq]
    constructor
    · rintro (⟨k, hk, h⟩ | h)
      · exact ⟨k, .inl hk, h⟩
      · exact ⟨n, .inr rfl, h⟩
    · rintro ⟨k, hk | rfl, h⟩
      · exact .inl ⟨k, hk, h⟩
      · exact .inr h

@[simp] theorem inRange_iff (x : Int) : inRange x = true ↔ 0 ≤ x ∧ x ≤ maxTime := by simp [inRange]

end Sys2Proof.Machine
end

