-- ==== Sys2Proof/Laws/Commands.lean ====
section
/-!
SUPPORT. What each command does to each field, true by `rfl`, and what `exec` is
for each command: the frame of a compute command around one effect. A proof
about a command cites these and unfolds neither the effect nor the hash.
-/

namespace Sys2Proof.Machine

variable (s : State)

/-! The arms of `exec` for the compute commands. -/

theorem exec_hmac : exec .hmac s = computeFrame hmacEffect s := rfl
theorem exec_trunc : exec .trunc s = computeFrame truncEffect s := rfl
theorem exec_ts2ctr : exec .ts2ctr s = computeFrame (fun u => counterEffect u.ts u) s := rfl
theorem exec_cteq : exec .cteq s = computeFrame (fun u => setMatched (cteqResult u) u) s := rfl
theorem exec_hotp : exec .hotp s = computeFrame (fun u => codeEffect u.ctr u) s := rfl
theorem exec_genat : exec .genat s = computeFrame (fun u => generateEffect u.ts u) s := rfl
theorem exec_now : exec .now s = computeFrame (fun u => generateEffect u.tSample u) s := rfl
theorem exec_verifyat : exec .verifyat s = computeFrame (fun u => verifyEffect u.ts u) s := rfl
theorem exec_verify : exec .verify s = computeFrame (fun u => verifyEffect u.tSample u) s := rfl

/-! `hmacEffect` -/

@[simp] theorem hmacEffect_status : (hmacEffect s).status = s.status := rfl
@[simp] theorem hmacEffect_cfgDigits : (hmacEffect s).cfgDigits = s.cfgDigits := rfl
@[simp] theorem hmacEffect_cfgAlg : (hmacEffect s).cfgAlg = s.cfgAlg := rfl
@[simp] theorem hmacEffect_cfgPeriod : (hmacEffect s).cfgPeriod = s.cfgPeriod := rfl
@[simp] theorem hmacEffect_cfgKeylen : (hmacEffect s).cfgKeylen = s.cfgKeylen := rfl
@[simp] theorem hmacEffect_window : (hmacEffect s).window = s.window := rfl
@[simp] theorem hmacEffect_candLen : (hmacEffect s).candLen = s.candLen := rfl
@[simp] theorem hmacEffect_ts : (hmacEffect s).ts = s.ts := rfl
@[simp] theorem hmacEffect_ctr : (hmacEffect s).ctr = s.ctr := rfl
@[simp] theorem hmacEffect_tused : (hmacEffect s).tused = s.tused := rfl
@[simp] theorem hmacEffect_cand : (hmacEffect s).cand = s.cand := rfl
@[simp] theorem hmacEffect_code : (hmacEffect s).code = s.code := rfl
@[simp] theorem hmacEffect_key : (hmacEffect s).key = s.key := rfl
@[simp] theorem hmacEffect_digest : (hmacEffect s).digest = bufOf 64 (digestOfCounter s.active s.ctr.toNat) := rfl
@[simp] theorem hmacEffect_binary : (hmacEffect s).binary = s.binary := rfl
@[simp] theorem hmacEffect_cmdLatch : (hmacEffect s).cmdLatch = s.cmdLatch := rfl
@[simp] theorem hmacEffect_tSample : (hmacEffect s).tSample = s.tSample := rfl
@[simp] theorem hmacEffect_active : (hmacEffect s).active = s.active := rfl
@[simp] theorem hmacEffect_algAvail : (hmacEffect s).algAvail = s.algAvail := rfl
@[simp] theorem hmacEffect_env : (hmacEffect s).env = s.env := rfl

/-! `truncEffect` -/

@[simp] theorem truncEffect_status : (truncEffect s).status = s.status := rfl
@[simp] theorem truncEffect_cfgDigits : (truncEffect s).cfgDigits = s.cfgDigits := rfl
@[simp] theorem truncEffect_cfgAlg : (truncEffect s).cfgAlg = s.cfgAlg := rfl
@[simp] theorem truncEffect_cfgPeriod : (truncEffect s).cfgPeriod = s.cfgPeriod := rfl
@[simp] theorem truncEffect_cfgKeylen : (truncEffect s).cfgKeylen = s.cfgKeylen := rfl
@[simp] theorem truncEffect_window : (truncEffect s).window = s.window := rfl
@[simp] theorem truncEffect_candLen : (truncEffect s).candLen = s.candLen := rfl
@[simp] theorem truncEffect_ts : (truncEffect s).ts = s.ts := rfl
@[simp] theorem truncEffect_ctr : (truncEffect s).ctr = s.ctr := rfl
@[simp] theorem truncEffect_tused : (truncEffect s).tused = s.tused := rfl
@[simp] theorem truncEffect_cand : (truncEffect s).cand = s.cand := rfl
@[simp] theorem truncEffect_code : (truncEffect s).code =
    bufOf 16 (truncate (digestOperand s) s.active.digits.toNat) := rfl
@[simp] theorem truncEffect_key : (truncEffect s).key = s.key := rfl
@[simp] theorem truncEffect_digest : (truncEffect s).digest = s.digest := rfl
@[simp] theorem truncEffect_binary : (truncEffect s).binary = truncBinary (digestOperand s) := rfl
@[simp] theorem truncEffect_cmdLatch : (truncEffect s).cmdLatch = s.cmdLatch := rfl
@[simp] theorem truncEffect_tSample : (truncEffect s).tSample = s.tSample := rfl
@[simp] theorem truncEffect_active : (truncEffect s).active = s.active := rfl
@[simp] theorem truncEffect_algAvail : (truncEffect s).algAvail = s.algAvail := rfl
@[simp] theorem truncEffect_env : (truncEffect s).env = s.env := rfl

/-! `codeEffect` -/

@[simp] theorem codeEffect_status (c : Word64) : (codeEffect c s).status = s.status := rfl
@[simp] theorem codeEffect_cfgDigits (c : Word64) : (codeEffect c s).cfgDigits = s.cfgDigits := rfl
@[simp] theorem codeEffect_cfgAlg (c : Word64) : (codeEffect c s).cfgAlg = s.cfgAlg := rfl
@[simp] theorem codeEffect_cfgPeriod (c : Word64) : (codeEffect c s).cfgPeriod = s.cfgPeriod := rfl
@[simp] theorem codeEffect_cfgKeylen (c : Word64) : (codeEffect c s).cfgKeylen = s.cfgKeylen := rfl
@[simp] theorem codeEffect_window (c : Word64) : (codeEffect c s).window = s.window := rfl
@[simp] theorem codeEffect_candLen (c : Word64) : (codeEffect c s).candLen = s.candLen := rfl
@[simp] theorem codeEffect_ts (c : Word64) : (codeEffect c s).ts = s.ts := rfl
@[simp] theorem codeEffect_ctr (c : Word64) : (codeEffect c s).ctr = s.ctr := rfl
@[simp] theorem codeEffect_tused (c : Word64) : (codeEffect c s).tused = s.tused := rfl
@[simp] theorem codeEffect_cand (c : Word64) : (codeEffect c s).cand = s.cand := rfl
@[simp] theorem codeEffect_code (c : Word64) : (codeEffect c s).code =
    bufOf 16 (truncate (digestOfCounter s.active c.toNat) s.active.digits.toNat) := rfl
@[simp] theorem codeEffect_key (c : Word64) : (codeEffect c s).key = s.key := rfl
@[simp] theorem codeEffect_digest (c : Word64) : (codeEffect c s).digest =
    bufOf 64 (digestOfCounter s.active c.toNat) := rfl
@[simp] theorem codeEffect_binary (c : Word64) : (codeEffect c s).binary =
    truncBinary (digestOfCounter s.active c.toNat) := rfl
@[simp] theorem codeEffect_cmdLatch (c : Word64) : (codeEffect c s).cmdLatch = s.cmdLatch := rfl
@[simp] theorem codeEffect_tSample (c : Word64) : (codeEffect c s).tSample = s.tSample := rfl
@[simp] theorem codeEffect_active (c : Word64) : (codeEffect c s).active = s.active := rfl
@[simp] theorem codeEffect_algAvail (c : Word64) : (codeEffect c s).algAvail = s.algAvail := rfl
@[simp] theorem codeEffect_env (c : Word64) : (codeEffect c s).env = s.env := rfl

/-! `counterEffect` -/

@[simp] theorem counterEffect_status (t : Word64) : (counterEffect t s).status = s.status := rfl
@[simp] theorem counterEffect_cfgDigits (t : Word64) : (counterEffect t s).cfgDigits = s.cfgDigits := rfl
@[simp] theorem counterEffect_cfgAlg (t : Word64) : (counterEffect t s).cfgAlg = s.cfgAlg := rfl
@[simp] theorem counterEffect_cfgPeriod (t : Word64) : (counterEffect t s).cfgPeriod = s.cfgPeriod := rfl
@[simp] theorem counterEffect_cfgKeylen (t : Word64) : (counterEffect t s).cfgKeylen = s.cfgKeylen := rfl
@[simp] theorem counterEffect_window (t : Word64) : (counterEffect t s).window = s.window := rfl
@[simp] theorem counterEffect_candLen (t : Word64) : (counterEffect t s).candLen = s.candLen := rfl
@[simp] theorem counterEffect_ts (t : Word64) : (counterEffect t s).ts = s.ts := rfl
@[simp] theorem counterEffect_ctr (t : Word64) : (counterEffect t s).ctr = counterWord t s.active := rfl
@[simp] theorem counterEffect_tused (t : Word64) : (counterEffect t s).tused = t := rfl
@[simp] theorem counterEffect_cand (t : Word64) : (counterEffect t s).cand = s.cand := rfl
@[simp] theorem counterEffect_code (t : Word64) : (counterEffect t s).code = s.code := rfl
@[simp] theorem counterEffect_key (t : Word64) : (counterEffect t s).key = s.key := rfl
@[simp] theorem counterEffect_digest (t : Word64) : (counterEffect t s).digest = s.digest := rfl
@[simp] theorem counterEffect_binary (t : Word64) : (counterEffect t s).binary = s.binary := rfl
@[simp] theorem counterEffect_cmdLatch (t : Word64) : (counterEffect t s).cmdLatch = s.cmdLatch := rfl
@[simp] theorem counterEffect_tSample (t : Word64) : (counterEffect t s).tSample = s.tSample := rfl
@[simp] theorem counterEffect_active (t : Word64) : (counterEffect t s).active = s.active := rfl
@[simp] theorem counterEffect_algAvail (t : Word64) : (counterEffect t s).algAvail = s.algAvail := rfl
@[simp] theorem counterEffect_env (t : Word64) : (counterEffect t s).env = s.env := rfl

/-! `generateEffect` -/

@[simp] theorem generateEffect_status (t : Word64) : (generateEffect t s).status = s.status := rfl
@[simp] theorem generateEffect_cfgDigits (t : Word64) : (generateEffect t s).cfgDigits = s.cfgDigits := rfl
@[simp] theorem generateEffect_cfgAlg (t : Word64) : (generateEffect t s).cfgAlg = s.cfgAlg := rfl
@[simp] theorem generateEffect_cfgPeriod (t : Word64) : (generateEffect t s).cfgPeriod = s.cfgPeriod := rfl
@[simp] theorem generateEffect_cfgKeylen (t : Word64) : (generateEffect t s).cfgKeylen = s.cfgKeylen := rfl
@[simp] theorem generateEffect_window (t : Word64) : (generateEffect t s).window = s.window := rfl
@[simp] theorem generateEffect_candLen (t : Word64) : (generateEffect t s).candLen = s.candLen := rfl
@[simp] theorem generateEffect_ts (t : Word64) : (generateEffect t s).ts = s.ts := rfl
@[simp] theorem generateEffect_ctr (t : Word64) : (generateEffect t s).ctr = counterWord t s.active := rfl
@[simp] theorem generateEffect_tused (t : Word64) : (generateEffect t s).tused = t := rfl
@[simp] theorem generateEffect_cand (t : Word64) : (generateEffect t s).cand = s.cand := rfl
@[simp] theorem generateEffect_code (t : Word64) : (generateEffect t s).code =
    bufOf 16 (truncate (digestOfCounter s.active (counterWord t s.active).toNat) s.active.digits.toNat) := rfl
@[simp] theorem generateEffect_key (t : Word64) : (generateEffect t s).key = s.key := rfl
@[simp] theorem generateEffect_digest (t : Word64) : (generateEffect t s).digest =
    bufOf 64 (digestOfCounter s.active (counterWord t s.active).toNat) := rfl
@[simp] theorem generateEffect_binary (t : Word64) : (generateEffect t s).binary =
    truncBinary (digestOfCounter s.active (counterWord t s.active).toNat) := rfl
@[simp] theorem generateEffect_cmdLatch (t : Word64) : (generateEffect t s).cmdLatch = s.cmdLatch := rfl
@[simp] theorem generateEffect_tSample (t : Word64) : (generateEffect t s).tSample = s.tSample := rfl
@[simp] theorem generateEffect_active (t : Word64) : (generateEffect t s).active = s.active := rfl
@[simp] theorem generateEffect_algAvail (t : Word64) : (generateEffect t s).algAvail = s.algAvail := rfl
@[simp] theorem generateEffect_env (t : Word64) : (generateEffect t s).env = s.env := rfl

/-! `verifyEffect` -/

@[simp] theorem verifyEffect_status (t : Word64) : (verifyEffect t s).status =
    { s.status with matched := verifyAt s.active (candOperand s) s.candLen s.window t.toNat } := rfl
@[simp] theorem verifyEffect_cfgDigits (t : Word64) : (verifyEffect t s).cfgDigits = s.cfgDigits := rfl
@[simp] theorem verifyEffect_cfgAlg (t : Word64) : (verifyEffect t s).cfgAlg = s.cfgAlg := rfl
@[simp] theorem verifyEffect_cfgPeriod (t : Word64) : (verifyEffect t s).cfgPeriod = s.cfgPeriod := rfl
@[simp] theorem verifyEffect_cfgKeylen (t : Word64) : (verifyEffect t s).cfgKeylen = s.cfgKeylen := rfl
@[simp] theorem verifyEffect_window (t : Word64) : (verifyEffect t s).window = s.window := rfl
@[simp] theorem verifyEffect_candLen (t : Word64) : (verifyEffect t s).candLen = s.candLen := rfl
@[simp] theorem verifyEffect_ts (t : Word64) : (verifyEffect t s).ts = s.ts := rfl
@[simp] theorem verifyEffect_ctr (t : Word64) : (verifyEffect t s).ctr = s.ctr := rfl
@[simp] theorem verifyEffect_tused (t : Word64) : (verifyEffect t s).tused = t := rfl
@[simp] theorem verifyEffect_cand (t : Word64) : (verifyEffect t s).cand = s.cand := rfl
@[simp] theorem verifyEffect_code (t : Word64) : (verifyEffect t s).code = s.code := rfl
@[simp] theorem verifyEffect_key (t : Word64) : (verifyEffect t s).key = s.key := rfl
@[simp] theorem verifyEffect_digest (t : Word64) : (verifyEffect t s).digest = s.digest := rfl
@[simp] theorem verifyEffect_binary (t : Word64) : (verifyEffect t s).binary = s.binary := rfl
@[simp] theorem verifyEffect_cmdLatch (t : Word64) : (verifyEffect t s).cmdLatch = s.cmdLatch := rfl
@[simp] theorem verifyEffect_tSample (t : Word64) : (verifyEffect t s).tSample = s.tSample := rfl
@[simp] theorem verifyEffect_active (t : Word64) : (verifyEffect t s).active = s.active := rfl
@[simp] theorem verifyEffect_algAvail (t : Word64) : (verifyEffect t s).algAvail = s.algAvail := rfl
@[simp] theorem verifyEffect_env (t : Word64) : (verifyEffect t s).env = s.env := rfl

/-- Everything a command can be: `CONFIGURE`, `CLEAR`, or the frame of a compute
command around an effect that leaves the active configuration, the parameter and
the environment, and leaves `STATUS` but for the `MATCH` of three commands. -/
theorem exec_cases (i : Instr) :
    (i = .configure ∧ exec i s = execConfigure s) ∨
    (i = .clear ∧ exec i s = .next (complete (hwReset s))) ∨
    (i ≠ .configure ∧ i ≠ .clear ∧ ∃ f : State → State, exec i s = computeFrame f s ∧
      (∀ u, (f u).active = u.active ∧ (f u).algAvail = u.algAvail ∧ (f u).env = u.env) ∧
      ((∀ u, (f u).status = u.status) ∨
        ((i = .cteq ∨ i = .verifyat ∨ i = .verify) ∧ ∃ b, (f s).status = { s.status with matched := b }))) := by
  cases i
  · exact .inl ⟨rfl, rfl⟩
  · exact .inr (.inl ⟨rfl, rfl⟩)
  · exact .inr (.inr ⟨by simp, by simp, _, exec_hmac s, by simp, .inl (by simp)⟩)
  · exact .inr (.inr ⟨by simp, by simp, _, exec_trunc s, by simp, .inl (by simp)⟩)
  · exact .inr (.inr ⟨by simp, by simp, _, exec_ts2ctr s, by simp, .inl (by simp)⟩)
  · exact .inr (.inr ⟨by simp, by simp, _, exec_cteq s, by simp, .inr ⟨by simp, _, by simp; rfl⟩⟩)
  · exact .inr (.inr ⟨by simp, by simp, _, exec_hotp s, by simp, .inl (by simp)⟩)
  · exact .inr (.inr ⟨by simp, by simp, _, exec_genat s, by simp, .inl (by simp)⟩)
  · exact .inr (.inr ⟨by simp, by simp, _, exec_now s, by simp, .inl (by simp)⟩)
  · exact .inr (.inr ⟨by simp, by simp, _, exec_verifyat s, by simp, .inr ⟨by simp, _, by simp; rfl⟩⟩)
  · exact .inr (.inr ⟨by simp, by simp, _, exec_verify s, by simp, .inr ⟨by simp, _, by simp; rfl⟩⟩)

end Sys2Proof.Machine
end

