-- ==== Sys2Proof/Laws/PerInstr.lean ====
section
/-!
SUPPORT. Statements made per instruction: the round trip of the encoding.
-/

namespace Sys2Proof.Laws.RoundTrip

/-- The instruction is well formed and its word decodes to it. -/
def Statement (i : Instr) : Prop := i.wf = true ∧ decode (encode i) = .ok i

theorem configure : Statement .configure := by unfold Statement; decide
theorem clear : Statement .clear := by unfold Statement; decide
theorem hmac : Statement .hmac := by unfold Statement; decide
theorem trunc : Statement .trunc := by unfold Statement; decide
theorem ts2ctr : Statement .ts2ctr := by unfold Statement; decide
theorem cteq : Statement .cteq := by unfold Statement; decide
theorem hotp : Statement .hotp := by unfold Statement; decide
theorem genat : Statement .genat := by unfold Statement; decide
theorem now : Statement .now := by unfold Statement; decide
theorem verifyat : Statement .verifyat := by unfold Statement; decide
theorem verify : Statement .verify := by unfold Statement; decide

end Sys2Proof.Laws.RoundTrip
end

