-- ==== Sys2Proof/Laws/Sha.lean ====
section
/-!
SUPPORT. Lengths of the lists the hash functions work on.
-/

namespace Sys2Proof.Machine

@[simp] theorem extendSchedule_length {w : Nat} (next : List (BitVec w) → BitVec w) (n : Nat) (ws : List (BitVec w)) :
    (extendSchedule next n ws).length = n + ws.length := by
  induction n generalizing ws with
  | zero => simp [extendSchedule]
  | succ n ih => simp [extendSchedule, ih]; omega

/-- What is already in a schedule stays at its end. -/
theorem extendSchedule_suffix {w : Nat} (next : List (BitVec w) → BitVec w) (n : Nat) (ws : List (BitVec w)) :
    ws <:+ extendSchedule next n ws := by
  induction n generalizing ws with
  | zero => simp [extendSchedule]
  | succ n ih => exact (List.suffix_cons _ ws).trans (by simpa [extendSchedule] using ih (next ws :: ws))

/-- The words of a schedule come one after the other, each from those before it. -/
theorem extendSchedule_succ {w : Nat} (next : List (BitVec w) → BitVec w) (n : Nat) (ws : List (BitVec w)) :
    extendSchedule next (n + 1) ws = next (extendSchedule next n ws) :: extendSchedule next n ws := by
  induction n generalizing ws with
  | zero => rfl
  | succ n ih => rw [extendSchedule, ih, ← extendSchedule]

@[simp] theorem blockWords_length (w : Nat) (block : List Byte) : (blockWords w block).length = 16 := by
  simp [blockWords]

@[simp] theorem wordsOut_length {w : Nat} (ws : List (BitVec w)) : (wordsOut ws).length = ws.length * (w / 8) := by
  induction ws with
  | nil => simp [wordsOut]
  | cons x ws ih =>
    simp only [wordsOut, List.flatMap_cons, List.length_append, beBytes_length, List.length_cons] at ih ⊢
    rw [ih]; ring

@[simp] theorem rowWords_length (w n row : Nat) : (rowWords w n row).length = n := by simp [rowWords]

@[simp] theorem sha256K_length : sha256K.length = 64 := rfl

@[simp] theorem sha512K_length : sha512K.length = 80 := rfl

end Sys2Proof.Machine
end

