-- ==== Sys2Proof/Tests/Slice0.lean ====
section
/-!
SUPPORT. Tests: expected results are taken from the spec's tables and examples
(95_test_vectors.md and the rules named at each test), never from the model. After
them, for every statement with hypotheses, one theorem that meets them.
-/

namespace Sys2Proof.Tests

open Sys2Proof Sys2Proof.Machine Sys2Proof.Spec

/-! Small states. -/

/-- The bytes of an ASCII string. -/
def ascii (t : String) : List Byte := t.toList.map fun c => BitVec.ofNat 8 c.toNat

/-- The secret of the source's vector (95_test_vectors.md V1). -/
def v1Secret : List Byte := [0x48, 0x65, 0x6c, 0x6c, 0x6f, 0x21, 0xde, 0xad, 0xbe, 0xef]

/-- The configuration of V1: SHA1, 6 digits, period 30. -/
def v1Config : ActiveConfig :=
  { valid := true, digits := 6, alg := .sha1, period := 30, keylen := 10, key := bufOf 256 v1Secret }

/-- The digest of V1. -/
def v1Digest : List Byte :=
  [0xbb, 0xc3, 0x0d, 0x5b, 0x5f, 0xd3, 0x66, 0xac, 0x99, 0xf3, 0xd1, 0x96, 0x16, 0xe8, 0x1f, 0xe4, 0xb9, 0x49, 0x54, 0xcd]

/-- A machine that has just accepted a command, with the configuration of V1 and `TS = 1634484000`. -/
def v1State : State := { State.reset with active := v1Config, ts := 1634484000, status := acceptedStatus }

/-- A machine with legal staging registers and no configuration, a command just accepted. -/
def stagedState : State :=
  { State.reset with
    cfgDigits := 6, cfgAlg := 0, cfgPeriod := 30, cfgKeylen := 10, key := bufOf 256 v1Secret,
    status := acceptedStatus }

/-- The reset state with a command accepted and the word `w` latched. -/
def latched (w : Word32) : State := { State.reset with cmdLatch := w, status := acceptedStatus }

/-- `STATUS` after the engine has run the latched command. -/
def statusAfter (s : State) : Option Word32 :=
  match engineStep s with
  | .next t => some (statusWord t)
  | _ => none

/-! WellFormed: one ill-formed term for each check (30_encoding.md R100, R104). -/

theorem test_wf_refuses_nonzero_zero_field : CmdWord.zeroOk { opcode := 0x20, zero := 1 } = false := by decide

theorem test_wf_refuses_reserved_opcodes :
    ∀ op ∈ [0x00#8, 0x03, 0x0F, 0x14, 0x1F, 0x25, 0xFF], CmdWord.opcodeOk { opcode := op, zero := 0 } = false := by
  decide

/-- The list of reserved encodings and the decoder agree on every opcode (R101, R104). -/
theorem test_wf_agrees_with_table :
    ∀ op : BitVec 8, CmdWord.wf { opcode := op, zero := 0 } = (opcodeTable.lookup op).isSome := by decide

/-! Encoding: words written out bit by bit, `ZERO` and then `OPCODE` (R100, R101). -/

theorem test_decode_configuration_family :
    decode 0b00000000000000000000000000000001 = .ok .configure ∧
    decode 0b00000000000000000000000000000010 = .ok .clear := by decide

theorem test_decode_unit_family :
    decode 0b00000000000000000000000000010000 = .ok .hmac ∧
    decode 0b00000000000000000000000000010001 = .ok .trunc ∧
    decode 0b00000000000000000000000000010010 = .ok .ts2ctr ∧
    decode 0b00000000000000000000000000010011 = .ok .cteq := by decide

theorem test_decode_operation_family :
    decode 0b00000000000000000000000000100000 = .ok .hotp ∧
    decode 0b00000000000000000000000000100001 = .ok .genat ∧
    decode 0b00000000000000000000000000100010 = .ok .now ∧
    decode 0b00000000000000000000000000100011 = .ok .verifyat ∧
    decode 0b00000000000000000000000000100100 = .ok .verify := by decide

/-- No two rows of the table have one opcode. -/
theorem test_opcodes_do_not_overlap : (opcodeTable.map Prod.fst).Pairwise (· ≠ ·) := by decide

/-- 95_test_vectors.md section 10: words that are no command. -/
theorem test_illegal_words_refused :
    decode 0x00000120 = .error .nonzeroUpperBits ∧ decode 0x80000001 = .error .nonzeroUpperBits ∧
    decode 0xFFFFFF24 = .error .nonzeroUpperBits ∧ decode 0x00000000 = .error .reservedOpcode ∧
    decode 0x00000025 = .error .reservedOpcode := by decide

theorem test_encode_words : encode .configure = 0x00000001 ∧ encode .verify = 0x00000024 := by decide

theorem test_table_words :
    decodeTableWord 32 0x00000010 = some .hmac ∧ decodeTableWord 8 0x24 = some .verify ∧
    decodeTableWord 32 0x00000110 = none := by decide

/-- A placed word runs as the first command after reset. -/
theorem test_placed_word_runs_next :
    step (State.reset.withFetchWord 32 0x00000010) = exec .hmac (latched 0x00000010) := rfl

/-! The register bus (95_test_vectors.md section 11). -/

theorem test_bus_errors :
    ∀ off ∈ [0x002, 0x011, 0x1FE, 0x04C, 0x070, 0x07C, 0x0C0, 0x0FC, 0x200, 0x1000],
      regRead off 0 State.reset = .busErr := by decide

/-- `CAND3 <- 0x64636261` gives `CAND[12..16) = 61 62 63 64`. -/
theorem test_bus_lanes :
    (regWrite 0x05C 0x64636261 0 State.reset).1.cand.toList.drop 12 = [0x61, 0x62, 0x63, 0x64] := by decide

/-- 20_memory.md R75: the code "920633" reads as `CODE0 = 0x36303239`. -/
theorem test_bus_reads_code :
    regRead 0x060 0 { State.reset with code := bufOf 16 (ascii "920633") } = .data 0x36303239 := by decide

/-- A write of `TS_HI` leaves `TS_LO` (10_state.md R31; 20000000000 = 0x4A817C800). -/
theorem test_bus_writes_high_half :
    (regWrite 0x02C 0x00000004 0 { State.reset with ts := 0xA817C800 }).1.ts = 20000000000 := by decide

/-! Commands. -/

/-- 40_config.md R131: the example ends with `STATUS = 0x0000000A`. -/
theorem test_configure_commits : statusAfter { stagedState with cmdLatch := 0x00000001 } = some 0x0000000A := by
  decide

/-- 95_test_vectors.md section 10: digits 262, and algorithm 3 with digits 0. -/
theorem test_configure_rejects :
    statusAfter { stagedState with cmdLatch := 0x00000001, cfgDigits := 0x00000106 } = some 0x00000204 ∧
    statusAfter { stagedState with cmdLatch := 0x00000001, cfgAlg := 3, cfgDigits := 0 } = some 0x00000104 := by
  decide

/-- 40_config.md R136: after `CLEAR`, `STATUS = 0x00000002` and `WINDOW = 1`. -/
theorem test_clear : ∃ t, exec .clear { v1State with window := 7 } = .next t ∧ statusWord t = 0x00000002 ∧
    t.window = 1 := ⟨_, rfl, by decide, rfl⟩

/-- 95_test_vectors.md section 10: a compute command with no configuration, and the zero word. -/
theorem test_refused_commands :
    statusAfter (latched 0x00000024) = some 0x00000304 ∧ statusAfter (latched 0x00000000) = some 0x00000404 := by
  decide

/-- 45_counter.md R242: `TS = 1634484000` with period 30 gives 54482800. -/
theorem test_ts2ctr : ∃ t, exec .ts2ctr v1State = .next t ∧ t.ctr = 54482800 ∧ t.tused = 1634484000 :=
  ⟨_, rfl, by decide, rfl⟩

/-- 95_test_vectors.md section 7: `2^64 - 1` with period `2^32 - 1`. -/
theorem test_ts2ctr_largest : counterAt (2 ^ 64 - 1) (2 ^ 32 - 1) = 4294967297 := by decide

/-- 46_compare.md R253: equal, and differing in the last byte. -/
theorem test_cteq :
    statusAfter { v1State with cmdLatch := 0x00000013, code := bufOf 16 (ascii "920633"),
                               cand := bufOf 16 (ascii "920633"), candLen := 6 } = some 0x0000001A ∧
    statusAfter { v1State with cmdLatch := 0x00000013, code := bufOf 16 (ascii "920633"),
                               cand := bufOf 16 (ascii "920634"), candLen := 6 } = some 0x0000000A := by decide

/-- 95_test_vectors.md section 8: the accumulator of two rows. -/
theorem test_comparator_accumulator :
    (compareBytes (ascii "920633") (ascii "145242") 6).acc = 0x0F ∧
    (compareBytes (ascii "920633") (ascii "92063x") 6).acc = 0x4B := by decide

/-- 43_truncation.md R216: the digest of V1 gives `BINARY = 0x681FE4B9` and "920633". -/
theorem test_trunc : ∃ t, exec .trunc { v1State with digest := bufOf 64 v1Digest } = .next t ∧
    t.binary = 0x681FE4B9 ∧ t.code.toList = ascii "920633" ++ zeros 10 := ⟨_, rfl, by decide, by decide⟩

/-- 95_test_vectors.md section 6: ten digits, an offset of 15 in 32 bytes. -/
theorem test_truncate_ten_digits :
    truncate ((List.range 31).map (BitVec.ofNat 8) ++ [0xaf]) 10 = ascii "0252711186" := by decide

/-- 43_truncation.md R214. -/
theorem test_render : render 3784 6 = ascii "003784" ∧ render 82162583 10 = ascii "0082162583" := by decide

/-- 41_sha.md R156: SHA-1 of "abc". -/
theorem test_sha1 : be (sha1 (ascii "abc")) = 0xa9993e364706816aba3e25717850c26c9cd0d89d := by decide +kernel

/-- 41_sha.md R163: SHA-256 of "abc". -/
theorem test_sha256 : be (sha256 (ascii "abc")) =
    0xba7816bf8f01cfea414140de5dae2223b00361a396177a9cb410ff61f20015ad := by decide +kernel

/-- 41_sha.md R170: SHA-512 of "abc". -/
theorem test_sha512 : be (sha512 (ascii "abc")) =
    0xddaf35a193617abacc417349ae20413112e6fa4e89a97ea20a9eeee64b55d39a2192992a274fc1a836ba3c23a3feebbd454d4423643ce80e2a9ac94fa54ca49f := by
  decide +kernel

/-- 42_hmac.md R197: SHA1, secret "12345678901234567890", counter 0. -/
theorem test_hmac : be (hmac .sha1 (ascii "12345678901234567890") (counterMessage 0)) =
    0xcc93cf18508d94934c64b65d8ba7667fb7cde4b0 := by decide +kernel

/-- 44_hotp.md R231: counter 1 of the same secret gives "287082". -/
theorem test_hotp : computeCode (ascii "12345678901234567890") 1 6 .sha1 = ascii "287082" := by decide +kernel

/-- 47_totp.md R261: the source's vector gives "920633". -/
theorem test_genat : generateAt v1Config 1634484000 = ascii "920633" := by decide +kernel

/-- 47_totp.md R263: `NOW` works from the sample, not from `TS`. -/
theorem test_now : ∃ t, exec .now { v1State with tSample := 59 } = .next t ∧ t.tused = 59 ∧ t.ctr = 1 ∧
    t.ts = 1634484000 := by
  rw [exec_now, computeFrame_valid rfl]
  exact ⟨_, rfl, rfl, by decide, rfl⟩

/-- 45_counter.md R244, 95_test_vectors.md section 7: which offsets are in range. -/
theorem test_window_range :
    inRange (windowTime 10 (-1) 30) = false ∧ inRange (windowTime 45 (-1) 30) = true ∧
    inRange (windowTime (2 ^ 64 - 1) 1 30) = false := by decide

/-- 95_test_vectors.md section 9: a candidate of the wrong length does not match. -/
theorem test_verifyat_wrong_length :
    statusAfter { v1State with cmdLatch := 0x00000023, candLen := 5, window := 2 } = some 0x0000000A := by decide

/-- 47_totp.md R272, round trip with `WINDOW = 0`: "920633" at its own time. -/
theorem test_verify_round_trip :
    verifyAt v1Config (ascii "920633") 6 0 1634484000 = true := by decide +kernel

/-- 10_state.md R22, R24: `CAP` of an instance without SHA1, and `STATUS` while busy with a configuration. -/
theorem test_status_and_cap_words :
    capWord { State.reset with algAvail := 0b110 } = 0x01000006 ∧ statusWord v1State = 0x00000009 := by decide

/-! Witnesses: for each statement with hypotheses, states and operands that meet
them, each clause at the boundaries of its ranges. -/

theorem v1_active_ok : ActiveOk v1State.algAvail v1State.active := by
  refine ⟨by decide, nofun, fun k hk h => ?_⟩
  change bufByte (bufOf 256 v1Secret) k = 0
  rw [bufByte_bufOf _ hk, List.getD_eq_getElem?_getD, List.getElem?_eq_none h]
  rfl

theorem reset_active_ok : ActiveOk State.reset.algAvail State.reset.active := by
  refine ⟨nofun, fun _ => rfl, fun k hk _ => ?_⟩
  change bufByte (Vector.replicate 256 0) k = 0
  rw [bufByte_eq_getElem _ hk, Vector.getElem_replicate]

theorem witness_IllegalWordsOnlySetError :
    ((latched 0x00000101).cmdLatch.extractLsb' 8 24 ≠ 0 ∧ (latched 0x80000024).cmdLatch.extractLsb' 8 24 ≠ 0) ∧
    ((latched 0x00000000).cmdLatch.extractLsb' 0 8).toNat = 0x00 ∧
    ((latched 0x00000003).cmdLatch.extractLsb' 0 8).toNat = 0x03 ∧
    ((latched 0x0000000F).cmdLatch.extractLsb' 0 8).toNat = 0x0F ∧
    ((latched 0x0000001F).cmdLatch.extractLsb' 0 8).toNat = 0x1F ∧
    ((latched 0x00000025).cmdLatch.extractLsb' 0 8).toNat = 0x25 ∧
    ((latched 0x00000024).cmdLatch.extractLsb' 8 24 = 0 ∧
      ((latched 0x00000024).cmdLatch.extractLsb' 0 8).toNat = 0x24) ∧
    ((latched 0x00000001).cmdLatch.extractLsb' 8 24 = 0 ∧
      ((latched 0x00000001).cmdLatch.extractLsb' 0 8).toNat = 0x01) := by decide

theorem witness_EngineStepRunsDecodedCommand :
    nextTurn (latched 0x00000010) = .engine (latched 0x00000010) ∧ Instr.wf .hmac = true ∧
      decode (latched 0x00000010).cmdLatch = .ok .hmac := ⟨rfl, rfl, by decide⟩

/-- The state `s` with the script `script`. -/
def scripted (script : List Event) (s : State) : State := withScript script s

theorem witness_HostTransactionIsOneStep :
    (scripted [.bus (.read 0x1FC) 5, .engine] State.reset).env.script = .bus (.read 0x1FC) 5 :: [.engine] ∧
    (scripted [.bus (.write 0x008 1) 5] State.reset).env.script = .bus (.write 0x008 1) 5 :: [] := ⟨rfl, rfl⟩

theorem witness_IdleMachineRests :
    (State.reset.status.busy = false ∧ State.reset.env.script = []) ∧
    (scripted [.engine, .reset] State.reset).status.busy = false ∧
    (scripted [.engine, .reset] State.reset).env.script = .engine :: [.reset] := ⟨⟨rfl, rfl⟩, rfl, rfl⟩

theorem witness_ResetEventRestoresResetState :
    (scripted [.reset, .engine] v1State).env.script = .reset :: [.engine] := rfl

theorem witness_BusErrorsExactly :
    (∀ off ∈ [0x04C, 0x000, 0x1FD, 0x200, 0x0BC], (regWrite off 0 0 State.reset).2 = .busErr) ∧
    (∀ off ∈ [0x010, 0x05C, 0x100, 0x1FC], (regWrite off 0 0 State.reset).2 ≠ .busErr) := by decide

theorem witness_RegistersReadTheirValues : State.reset.status.busy = false := rfl

theorem witness_BufferReadsInLaneOrder : State.reset.status.busy = false ∧ 3 < 4 ∧ 15 < 16 := by decide

theorem witness_BufferWritesInLaneOrder : State.reset.status.busy = false ∧ 3 < 4 ∧ 63 < 64 := by decide

theorem witness_RegisterWriteReadsBack :
    State.reset.status.busy = false ∧
      ∀ off ∈ [0x010, 0x034], 0x010 ≤ off ∧ off ≤ 0x034 ∧ off % 4 = 0 := by decide

theorem witness_AccessRightsHold :
    readOnly 0x000 ∧ readOnly 0x048 ∧ readOnly 0x060 ∧ readOnly 0x06C ∧ readOnly 0x080 ∧ readOnly 0x0BC ∧
    State.reset.status.busy = false ∧
      ∀ off ∈ [0x008, 0x100, 0x1FC], off % 4 = 0 ∧ (off = 0x008 ∨ (0x100 ≤ off ∧ off ≤ 0x1FC)) := by
  simp [readOnly, State.reset, Status.reset]

theorem witness_CommandAcceptance : State.reset.status.busy = false ∧ (latched 0).status.busy = true := ⟨rfl, rfl⟩

theorem witness_BusyFreezesRegisters :
    (latched 0).status.busy = true ∧ ¬ alwaysReadable 0x008 ∧ alwaysReadable 0x000 ∧ alwaysReadable 0x03C := by
  unfold alwaysReadable; decide

theorem witness_HiddenStateIsUnreadable : v1Config.valid = v1State.active.valid := rfl

theorem witness_ValidateChecksInOrder :
    (2 < (3#32).toNat ∨ (0b111#3).getLsbD (3#32).toNat = false) ∧
    (2 < (0#32).toNat ∨ (0b110#3).getLsbD (0#32).toNat = false) ∧
    ((2#32).toNat ≤ 2 ∧ (0b111#3).getLsbD (2#32).toNat = true ∧
      ((5#32).toNat < 6 ∧ 10 < (11#32).toNat ∧ 256 < (257#32).toNat)) ∧
    (6 ≤ (6#32).toNat ∧ (10#32).toNat ≤ 10 ∧ (1#32) ≠ 0 ∧ (256#32).toNat ≤ 256) := by decide

theorem witness_ConfigureCommits :
    ¬ badAlg stagedState ∧ ¬ badField stagedState ∧
    ¬ badField { stagedState with cfgDigits := 10, cfgPeriod := 1, cfgKeylen := 256 } := by
  unfold badAlg badField; decide

theorem witness_ConfigureFailureKeepsEverything :
    badAlg { stagedState with cfgAlg := 3 } ∧ badAlg { stagedState with algAvail := 0b110 } ∧
    ¬ badAlg stagedState ∧ badField { stagedState with cfgDigits := 5 } ∧
    badField { stagedState with cfgDigits := 11 } ∧ badField { stagedState with cfgPeriod := 0 } ∧
    badField { stagedState with cfgKeylen := 0 } ∧ badField { stagedState with cfgKeylen := 257 } := by
  unfold badAlg badField; decide

theorem witness_ComputeNeedsConfiguration :
    (∃ t, exec .hmac (latched 0x00000010) = .next t ∧ t.status.errCode = .noConfiguration) ∧
    (∃ t, exec .ts2ctr v1State = .next t) ∧ v1State.status.errCode = .none := ⟨⟨_, rfl, rfl⟩, ⟨_, rfl⟩, rfl⟩

theorem witness_ErrorsArePrecise :
    ∃ t, engineStep (latched 0) = .next t ∧ (latched 0).status.err = false ∧ t.status.err = true :=
  ⟨_, rfl, rfl, rfl⟩

theorem witness_FlagsWrittenByCommands :
    (∃ t, exec .cteq { v1State with candLen := 6 } = .next t ∧ t.status.matched = true) ∧
    (∃ t, exec .clear v1State = .next t ∧ t.active.valid ≠ v1State.active.valid) ∧
    v1State.status = { busy := true, done := false, err := false, matched := false, errCode := .none } :=
  ⟨⟨_, rfl, by decide⟩, ⟨_, rfl, by decide⟩, rfl⟩

theorem witness_StagingNeverReachesCompute :
    Instr.ts2ctr ≠ .configure ∧ Instr.ts2ctr ≠ .clear ∧ ∃ t, exec .ts2ctr v1State = .next t :=
  ⟨by decide, by decide, _, rfl⟩

theorem witness_PaddingFillsBlocks : (List.replicate 256 (0 : Byte)).length ≤ 256 :=
  List.length_replicate.le

theorem witness_MessageSchedules :
    (List.replicate 16 (0 : Word32)).length = 16 ∧ (List.replicate 16 (0 : Word64)).length = 16 ∧
    16 ≤ 16 ∧ 63 < 64 ∧ 79 < 80 := by decide

theorem witness_HmacFormula :
    blockBytes .sha1 < (List.replicate 65 (0 : Byte)).length ∧ (List.replicate 64 (0 : Byte)).length ≤ blockBytes .sha1 ∧
    blockBytes .sha512 < (List.replicate 129 (0 : Byte)).length := by simp [blockBytes]

theorem witness_HmacKeysThatCoincide :
    (List.replicate 63 (0 : Byte)).length < blockBytes .sha1 ∧
    blockBytes .sha1 < (List.replicate 65 (0 : Byte)).length := by simp [blockBytes]

theorem witness_HmacCommandWritesDigest :
    v1State.active.valid = true ∧ State.reset.active.valid = false := ⟨rfl, rfl⟩

theorem witness_TruncationExtractsFourBytes : 20 ≤ (List.replicate 20 (0xff : Byte)).length := by simp

theorem witness_ReductionAndRendering : 999999 < 10 ^ 6 ∧ 0 < 10 ^ 6 ∧ 5 < 6 := by decide

theorem witness_TruncCommandWritesCode :
    (ActiveOk v1State.algAvail v1State.active ∧ v1State.active.valid = true) ∧
    ActiveOk State.reset.algAvail State.reset.active ∧ State.reset.active.valid = false :=
  ⟨⟨v1_active_ok, rfl⟩, reset_active_ok, rfl⟩

theorem witness_HotpCommandWritesCode :
    (ActiveOk v1State.algAvail v1State.active ∧ v1State.active.valid = true) ∧
    ActiveOk State.reset.algAvail State.reset.active ∧ State.reset.active.valid = false :=
  ⟨⟨v1_active_ok, rfl⟩, reset_active_ok, rfl⟩

theorem witness_CounterBoundaries : v1State.active.valid = true ∧ v1State.active.period ≠ 0 := by decide

theorem witness_WindowCountersAreConsecutive :
    0 < 30 ∧ 0 ≤ windowTime 30 (-1) 30 ∧ windowTime 29 (-1) 30 < 0 ∧ 2 ^ 64 - 1 < 2 ^ 64 := by decide

theorem witness_Ts2ctrCommandWritesCounter :
    (ActiveOk v1State.algAvail v1State.active ∧ v1State.active.valid = true) ∧
    ActiveOk State.reset.algAvail State.reset.active ∧ State.reset.active.valid = false :=
  ⟨⟨v1_active_ok, rfl⟩, reset_active_ok, rfl⟩

theorem witness_CtEqIsEquality : (ascii "920633").length = 6 ∧ (ascii "920634").length = 6 := by decide

theorem witness_CteqCommandCompares :
    (ActiveOk v1State.algAvail v1State.active ∧ v1State.active.valid = true) ∧
    ActiveOk State.reset.algAvail State.reset.active ∧ State.reset.active.valid = false :=
  ⟨⟨v1_active_ok, rfl⟩, reset_active_ok, rfl⟩

theorem witness_GenatCommandWritesCode :
    (ActiveOk v1State.algAvail v1State.active ∧ v1State.active.valid = true) ∧
    ActiveOk State.reset.algAvail State.reset.active ∧ State.reset.active.valid = false :=
  ⟨⟨v1_active_ok, rfl⟩, reset_active_ok, rfl⟩

theorem witness_NowCommandUsesSample :
    (ActiveOk v1State.algAvail v1State.active ∧ v1State.active.valid = true) ∧
    ActiveOk State.reset.algAvail State.reset.active ∧ State.reset.active.valid = false :=
  ⟨⟨v1_active_ok, rfl⟩, reset_active_ok, rfl⟩

theorem witness_VerifyatCommandChecksWindow :
    (ActiveOk v1State.algAvail v1State.active ∧ v1State.active.valid = true) ∧
    ActiveOk State.reset.algAvail State.reset.active ∧ State.reset.active.valid = false :=
  ⟨⟨v1_active_ok, rfl⟩, reset_active_ok, rfl⟩

theorem witness_VerifyCommandUsesSample :
    (ActiveOk v1State.algAvail v1State.active ∧ v1State.active.valid = true) ∧
    ActiveOk State.reset.algAvail State.reset.active ∧ State.reset.active.valid = false :=
  ⟨⟨v1_active_ok, rfl⟩, reset_active_ok, rfl⟩

theorem witness_WrongLengthNeverMatches :
    v1State.active.valid = true ∧ v1State.candLen ≠ v1State.active.digits := by decide

theorem witness_VerifyAcceptsWindowCounters :
    v1Config.period ≠ 0 ∧ (ascii "920633").length = v1Config.digits.toNat := by decide

theorem witness_GenerateVerifyRoundTrip :
    ActiveOk v1State.algAvail v1State.active ∧ v1State.active.valid = true := ⟨v1_active_ok, rfl⟩

/-- A code begins with an ASCII digit, so a candidate of zero bytes is the code of no time. -/
theorem generateAt_ne_zeros (t : Nat) : v1State.cand.toList.take 6 ≠ generateAt v1Config t := by
  intro h
  have h0 : (generateAt v1Config t).getD 0 0 = 0 := by rw [← h]; decide
  rw [generateAt, computeCode, truncate, render_getD (by decide)] at h0
  have h1 := congrArg BitVec.toNat h0
  rw [BitVec.toNat_add, BitVec.toNat_ofNat] at h1
  simp at h1
  omega

theorem witness_WindowSymmetry :
    ActiveOk v1State.algAvail v1State.active ∧ v1State.active.valid = true ∧ v1State.window = 1 ∧
    (∀ i ∈ [(-1 : Int), 0, 1], ∃ ts : Word64,
      (ts.toNat : Int) = (v1State.ts.toNat : Int) + i * (v1State.active.period.toNat : Int)) ∧
    (∀ (i : Int) (ts : Word64), -1 ≤ i → i ≤ 1 →
      (ts.toNat : Int) = (v1State.ts.toNat : Int) + i * (v1State.active.period.toNat : Int) →
      v1State.cand.toList.take v1State.active.digits.toNat ≠ generateAt v1State.active ts.toNat) := by
  refine ⟨v1_active_ok, rfl, rfl, ?_, fun _ ts _ _ _ => generateAt_ne_zeros ts.toNat⟩
  simp only [List.forall_mem_cons]
  exact ⟨⟨1634483970, by decide⟩, ⟨1634484000, by decide⟩, ⟨1634484030, by decide⟩, nofun⟩

theorem witness_VerifyRevealsOneBit :
    ({ v1Config with digits := 8, key := bufOf 256 [] }).valid = v1State.active.valid ∧
    ∃ t t', exec .verifyat v1State = .next t ∧
      exec .verifyat { v1State with active := { v1Config with digits := 8, key := bufOf 256 [] } } = .next t' ∧
      t.status.matched = t'.status.matched := ⟨rfl, _, _, rfl, rfl, by decide⟩

theorem v1_invariant : MachineInv v1State :=
  ⟨v1_active_ok, by decide, ⟨0, by decide +kernel⟩, by decide⟩

theorem witness_StepKeepsMachineInvariant :
    MachineInv { v1State with cmdLatch := 0x00000012 } ∧
    ∃ t, step { v1State with cmdLatch := 0x00000012 } = .next t ∧ t.ctr = 54482800 :=
  ⟨⟨v1_invariant.active, v1_invariant.status, v1_invariant.code, v1_invariant.binary⟩, _, rfl, by decide⟩

theorem witness_ActiveConfigurationIsImmutable :
    (∃ t, step { stagedState with cmdLatch := 0x00000001 } = .next t ∧ t.active.valid = true) ∧
    (∃ t, step { v1State with cmdLatch := 0x00000002 } = .next t ∧ t.active = ActiveConfig.reset) ∧
    (∃ t, step (scripted [.reset] v1State) = .next t ∧ t.active = ActiveConfig.reset) :=
  ⟨⟨_, rfl, rfl⟩, ⟨_, rfl, rfl⟩, ⟨_, rfl, rfl⟩⟩

end Sys2Proof.Tests
end

section
/-! The family 00_scope.md: whose turn a step is (R13, R103, R347). -/

namespace Sys2Proof.Machine

/-- Settles O5: of the six turns that `nextTurn_cases` lists, the two of the engine
are those with `BUSY = 1` and an empty script or the engine's event at its head;
the other four are settled ones, and each fails one of these conditions. -/
theorem engineTurnExactlyWhenBusy : Obligations.EngineTurnExactlyWhenBusy := by
  unfold Obligations.EngineTurnExactlyWhenBusy
  intro s u
  obtain ⟨hb, hs, ht⟩ | ⟨hb, hs, ht⟩ | ⟨rest, hb, hs, ht⟩ | ⟨rest, hb, hs, ht⟩ | ⟨op, time, rest, hs, ht⟩ |
    ⟨rest, hs, ht⟩ := nextTurn_cases s
  · simp [ht, hb, hs, eq_comm]
  · simp [ht, hb]
  · simp [ht, hb, hs, withScript, eq_comm]
  · simp [ht, hb]
  · simp [ht, hs]
  · simp [ht, hs]

end Sys2Proof.Machine
end

section
/-! Facts about the decoder, `validate` and the steps that the family 10_state.md
rests on: the one word of a command (R100), what an accepted configuration is
(R132), and what an engine step and a step can do (R103, R13). -/

namespace Sys2Proof.Machine

/-! The decoder. -/

/-- The table of R101 read backwards: a row is found under its own opcode only. -/
theorem opcodeTable_lookup_eq_some {op : BitVec 8} {i : Instr} (h : opcodeTable.lookup op = some i) :
    op = opcodeOf i := by
  have rows : ∀ op : BitVec 8, ∀ j ∈ opcodeTable.lookup op, op = opcodeOf j := by decide
  exact rows op i h

/-- A command word is its two fields of R100, one above the other. -/
theorem cmdWord_fields_append (w : Word32) : w.extractLsb' 8 24 ++ w.extractLsb' 0 8 = w := by
  rw [BitVec.extractLsb'_append_extractLsb'_eq_extractLsb' (start₁ := 0) (len₁ := 8) rfl, BitVec.extractLsb'_eq_self]

/-- A word that decodes is the encoding of the command it decodes to (R100, R101). -/
theorem eq_encode_of_decode {w : Word32} {i : Instr} (h : decode w = .ok i) : w = encode i := by
  unfold decode at h
  split at h
  case isFalse => cases h
  case isTrue hzero =>
    split at h
    case h_2 => cases h
    case h_1 j hj =>
      cases h
      calc w = w.extractLsb' 8 24 ++ w.extractLsb' 0 8 := (cmdWord_fields_append w).symm
        _ = 0#24 ++ opcodeOf i := by rw [hzero, opcodeTable_lookup_eq_some hj]; rfl
        _ = encode i := (BitVec.setWidth_eq _).symm

/-! `CONFIGURE` (40_config.md). -/

theorem algCode_le (a : HashAlg) : algCode a ≤ 2 := by cases a <;> decide

/-- A code names an algorithm exactly when it is that algorithm's number (R105). -/
theorem algOfCode_eq_some_iff {code : Word32} {a : HashAlg} :
    algOfCode code = some a ↔ algCode a = code.toNat := by
  constructor
  · intro h
    unfold algOfCode at h
    split at h <;> cases h <;> exact Eq.symm ‹_›
  · intro h
    rw [algOfCode, ← h]
    cases a <;> rfl

/-- Check 1 of R132 passes exactly for the code of an available algorithm. -/
theorem resolveAlg_eq_some_iff {avail : BitVec 3} {code : Word32} {a : HashAlg} :
    resolveAlg avail code = some a ↔ algCode a = code.toNat ∧ algAvailable avail a = true := by
  rw [← algOfCode_eq_some_iff, resolveAlg]
  cases algOfCode code with
  | none => simp
  | some b =>
    simp only [Option.ite_none_right_eq_some, Option.some.injEq]
    constructor
    · rintro ⟨hb, rfl⟩
      exact ⟨rfl, hb⟩
    · rintro ⟨rfl, hb⟩
      exact ⟨hb, rfl⟩

/-- The configurations that `validate` accepts (R132). -/
theorem validate_eq_ok_iff {avail : BitVec 3} {alg digits period keylen : Word32} {a : HashAlg} :
    validate avail alg digits period keylen = .ok a ↔
      (algCode a = alg.toNat ∧ algAvailable avail a = true) ∧
        (6 ≤ digits.toNat ∧ digits.toNat ≤ 10) ∧ period ≠ 0 ∧ keylen ≠ 0 ∧ keylen.toNat ≤ 256 := by
  rw [← resolveAlg_eq_some_iff, validate]
  cases resolveAlg avail alg with
  | none => simp
  | some b =>
    simp only [Option.some.injEq, Config.digitsMin, Config.digitsMax, Config.keyMax]
    split_ifs with hdigits hperiod hkeylen
    · simp only [false_iff]
      omega
    · simp [hperiod]
    · simp only [false_iff]
      rintro ⟨-, -, -, hne, hle⟩
      exact hkeylen.elim hne (by omega)
    · obtain ⟨hne, hle⟩ := not_or.mp hkeylen
      have hlegal : (6 ≤ digits.toNat ∧ digits.toNat ≤ 10) ∧ period ≠ 0 ∧ keylen ≠ 0 ∧ keylen.toNat ≤ 256 :=
        ⟨by omega, hperiod, hne, by omega⟩
      exact ⟨fun h => ⟨Except.ok.inj h, hlegal⟩, fun h => congrArg Except.ok h.1⟩

/-- A failing check is one of the two errors of `CONFIGURE` (R130, R132). -/
theorem validate_ne_error_none (avail : BitVec 3) (alg digits period keylen : Word32) :
    validate avail alg digits period keylen ≠ .error .none := by
  unfold validate
  cases resolveAlg avail alg with
  | none => simp
  | some b => simp only; split_ifs <;> simp

/-- `CONFIGURE` raises the error of its first failing check (R134). -/
theorem exec_configure_of_error {s : State} {c : ErrCode}
    (h : validate s.algAvail s.cfgAlg s.cfgDigits s.cfgPeriod s.cfgKeylen = .error c) :
    exec .configure s = .next (raiseErr c s) := by
  simp [exec, execConfigure, h]

/-! What a command and a step can do. -/

/-- Everything a command can lead to: an error, the new configuration of
`CONFIGURE`, the cleared machine of `CLEAR`, or the writes of a compute command,
which leave the active configuration, the parameter, and `STATUS` but for the
`MATCH` of three commands. -/
theorem exec_next_cases {i : Instr} {s t : State} (h : exec i s = .next t) :
    (∃ c, c ≠ .none ∧ t = raiseErr c s) ∨
    (∃ a, i = .configure ∧ validate s.algAvail s.cfgAlg s.cfgDigits s.cfgPeriod s.cfgKeylen = .ok a ∧
      t = complete (commit a s)) ∨
    (i = .clear ∧ t = complete (hwReset s)) ∨
    (i ≠ .configure ∧ i ≠ .clear ∧ s.active.valid = true ∧ ∃ u, t = complete u ∧
      u.active = s.active ∧ u.algAvail = s.algAvail ∧
      ∃ b, u.status = { s.status with matched := b } ∧
        (b = s.status.matched ∨ i = .cteq ∨ i = .verifyat ∨ i = .verify)) := by
  obtain ⟨hi, he⟩ | ⟨hi, he⟩ | ⟨hc, hl, f, he, hkeep, hstatus⟩ := exec_cases s i
  · rw [he] at h
    obtain ⟨c, hv, hx⟩ | ⟨a, hv, hx⟩ := execConfigure_cases s <;> rw [hx] at h <;> cases h
    · exact .inl ⟨c, fun hn => validate_ne_error_none _ _ _ _ _ (hn ▸ hv), rfl⟩
    · exact .inr (.inl ⟨a, hi, hv, rfl⟩)
  · rw [he] at h
    cases h
    exact .inr (.inr (.inl ⟨hi, rfl⟩))
  · rw [he] at h
    obtain ⟨hvalid, hx⟩ | ⟨-, hx⟩ := computeFrame_cases f s <;> rw [hx] at h <;> cases h
    · obtain ⟨hactive, havail, -⟩ := hkeep s
      refine .inr (.inr (.inr ⟨hc, hl, hvalid, f s, rfl, hactive, havail, ?_⟩))
      obtain hs | ⟨hi, b, hs⟩ := hstatus
      · exact ⟨s.status.matched, hs s, .inl rfl⟩
      · exact ⟨b, hs, .inr hi⟩
    · exact .inl ⟨.noConfiguration, by simp, rfl⟩

/-- Everything an engine step can lead to: `ILLEGAL_COMMAND`, or what the latched
command leads to (R103, R104). -/
theorem engineStep_cases {u t : State} (h : engineStep u = .next t) :
    t = raiseErr .illegalCommand u ∨ ∃ i, u.cmdLatch = encode i ∧ exec i u = .next t := by
  unfold engineStep at h
  split at h
  next => cases h; exact .inl rfl
  next i hi => exact .inr ⟨i, eq_encode_of_decode hi, h⟩

/-- `t` differs from `s` by no more than a turn of the host can do: the active
configuration, the parameter and the code stay, and `STATUS` changes only by the
acceptance of a command (R73, R102). -/
structure HostKeeps (s t : State) : Prop where
  active : t.active = s.active
  algAvail : t.algAvail = s.algAvail
  code : t.code = s.code
  binary : t.binary = s.binary
  status : t.status = s.status ∨ t.status = acceptedStatus

theorem busStep_hostKeeps (op : BusOp) (time : Word64) (s : State) : HostKeeps s (busStep op time s) := by
  cases op with
  | read off => exact ⟨rfl, rfl, rfl, rfl, .inl rfl⟩
  | write off data =>
    obtain h | ⟨-, r, t, -, ht, h⟩ := regWrite_cases off data time s
    · rw [busStep, h]
      exact ⟨rfl, rfl, rfl, rfl, .inl rfl⟩
    · obtain ⟨hactive, havail, -, -, hcode, -, hbinary, hstatus⟩ := regStore_keeps ht
      rw [busStep, h]
      exact ⟨hactive, havail, hcode, hbinary, hstatus⟩

/-- Everything a step can lead to: what the engine step leads to, the state after
a reset, or a state that keeps what a turn of the host keeps. -/
theorem step_next_cases {s t : State} (h : step s = .next t) :
    (∃ script, s.status.busy = true ∧ nextTurn s = .engine (withScript script s) ∧
      engineStep (withScript script s) = .next t) ∨
    (∃ rest, s.env.script = .reset :: rest ∧ t = hwReset (withScript rest s)) ∨
    HostKeeps s t := by
  cases hturn : nextTurn s with
  | engine u =>
    obtain ⟨hbusy, script, rfl⟩ := nextTurn_engine hturn
    exact .inl ⟨script, hbusy, rfl, step_engine hturn ▸ h⟩
  | settled u =>
    rw [step_settled hturn] at h
    cases h
    obtain ⟨-, -, ht⟩ | ⟨-, -, ht⟩ | ⟨rest, -, -, ht⟩ | ⟨rest, -, -, ht⟩ | ⟨op, time, rest, -, ht⟩ |
      ⟨rest, hs, ht⟩ := nextTurn_cases s <;> rw [ht] at hturn <;> cases hturn
    · exact .inr (.inr ⟨rfl, rfl, rfl, rfl, .inl rfl⟩)
    · exact .inr (.inr ⟨rfl, rfl, rfl, rfl, .inl rfl⟩)
    · obtain ⟨hactive, havail, hcode, hbinary, hstatus⟩ := busStep_hostKeeps op time (withScript rest s)
      exact .inr (.inr ⟨hactive, havail, hcode, hbinary, hstatus⟩)
    · exact .inr (.inl ⟨rest, hs, rfl⟩)

end Sys2Proof.Machine
end

section
/-! The invariant of the machine (R24, R35, R38, R43), part by part. -/

namespace Sys2Proof.Machine

/-! The active configuration. -/

theorem activeOk_reset (avail : BitVec 3) : ActiveOk avail ActiveConfig.reset := by
  refine ⟨nofun, fun _ => rfl, fun k hk _ => ?_⟩
  rw [bufByte_eq_getElem _ hk]
  exact Vector.getElem_replicate hk

/-- What `CONFIGURE` builds from values that passed the checks is legal, and its
key buffer is zero beyond the secret (R133). -/
theorem activeOk_stagedConfig {a : HashAlg} {s : State}
    (h : validate s.algAvail s.cfgAlg s.cfgDigits s.cfgPeriod s.cfgKeylen = .ok a) :
    ActiveOk s.algAvail (stagedConfig a s) := by
  obtain ⟨⟨-, havail⟩, hdigits, hperiod, hkeylen, hmax⟩ := validate_eq_ok_iff.mp h
  have hpos : 1 ≤ s.cfgKeylen.toNat := by
    rw [Nat.one_le_iff_ne_zero, ne_eq, ← BitVec.toNat_zero, BitVec.toNat_inj]
    exact hkeylen
  refine ⟨fun _ => ⟨hdigits, havail, hperiod, hpos, hmax⟩, nofun, fun k hk hle => ?_⟩
  rw [stagedConfig, bufByte_bufOf _ hk, List.getD_eq_default]
  exact (List.length_take_le _ _).trans hle

/-! `STATUS`. -/

/-- While `BUSY = 1` the flags are those of an accepted command. -/
theorem eq_acceptedStatus_of_busy {st : Status} (h : StatusOk st) (hbusy : st.busy = true) : st = acceptedStatus := by
  obtain ⟨busy, done, err, matched, errCode⟩ := st
  obtain ⟨hdone, herr, -, hcode, hmatched⟩ := h
  simp_all [acceptedStatus]

/-! The results of a truncation. -/

/-- R211 clears the top bit of `BINARY`. -/
theorem truncBinary_toNat_lt (h : List Byte) : (truncBinary h).toNat < 2 ^ 31 := by
  have hmsb : (truncBinary h).msb = false := by
    rw [truncBinary, BitVec.setWidth_eq, BitVec.msb_append, BitVec.msb_append, BitVec.msb_append, BitVec.msb_and,
      show (0x7F : Byte).msb = false from rfl]
    simp
  have := BitVec.msb_eq_false_iff_two_mul_lt.mp hmsb
  omega

/-- A rendered character is an ASCII digit (R107, R214). -/
theorem render_getD_digit {v d k : Nat} (hk : k < d) :
    0x30 ≤ ((render v d).getD k 0).toNat ∧ ((render v d).getD k 0).toNat ≤ 0x39 := by
  rw [render_getD hk, BitVec.toNat_add, BitVec.toNat_ofNat, show (0x30 : Byte).toNat = 48 from rfl]
  omega

/-- A code of a legal number of digits, laid into `CODE` (R35, R216). -/
theorem codeOk_truncate (h : List Byte) {d : Nat} (hmin : 6 ≤ d) (hmax : d ≤ 10) :
    CodeOk (bufOf 16 (truncate h d)) := by
  refine ⟨d, by omega, .inr hmin, fun k hk hlt => ?_, fun k hk hle => ?_⟩
  · rw [bufByte_bufOf _ hk]
    exact render_getD_digit hlt
  · rw [bufByte_bufOf _ hk, List.getD_eq_default]
    simpa using hle

theorem codeOk_zeros : CodeOk (Vector.replicate 16 0) := by
  refine ⟨0, by omega, .inl rfl, nofun, fun k hk _ => ?_⟩
  rw [bufByte_eq_getElem _ hk]
  exact Vector.getElem_replicate hk

/-- `CODE` and `BINARY` of `t` are those of `s`, or the truncation of some digest
to the digits of the configuration active in `s`. -/
def ResultFrom (s t : State) : Prop :=
  (t.code = s.code ∧ t.binary = s.binary) ∨
    ∃ h, t.code = bufOf 16 (truncate h s.active.digits.toNat) ∧ t.binary = truncBinary h

theorem computeFrame_resultFrom {f : State → State} {s t : State} (h : computeFrame f s = .next t)
    (hf : ResultFrom s (f s)) : ResultFrom s t := by
  obtain ⟨-, hx⟩ | ⟨-, hx⟩ := computeFrame_cases f s <;> rw [hx] at h <;> cases h
  · exact hf
  · exact .inl ⟨rfl, rfl⟩

theorem resultFrom_codeEffect (c : Word64) (s : State) : ResultFrom s (codeEffect c s) :=
  .inr ⟨digestOfCounter s.active c.toNat, codeEffect_code s c, codeEffect_binary s c⟩

theorem resultFrom_generateEffect (t : Word64) (s : State) : ResultFrom s (generateEffect t s) :=
  .inr ⟨digestOfCounter s.active (counterWord t s.active).toNat, generateEffect_code s t, generateEffect_binary s t⟩

theorem resultFrom_verifyEffect (t : Word64) (s : State) : ResultFrom s (verifyEffect t s) :=
  .inl ⟨verifyEffect_code s t, verifyEffect_binary s t⟩

/-- The only result a compute command leaves is that of a truncation (R45). -/
theorem exec_resultFrom {i : Instr} {s t : State} (hc : i ≠ .configure) (hl : i ≠ .clear)
    (h : exec i s = .next t) : ResultFrom s t := by
  cases i
  case configure => contradiction
  case clear => contradiction
  case hmac =>
    rw [exec_hmac] at h
    exact computeFrame_resultFrom h (.inl ⟨hmacEffect_code s, hmacEffect_binary s⟩)
  case trunc =>
    rw [exec_trunc] at h
    exact computeFrame_resultFrom h (.inr ⟨digestOperand s, truncEffect_code s, truncEffect_binary s⟩)
  case ts2ctr =>
    rw [exec_ts2ctr] at h
    exact computeFrame_resultFrom h (.inl ⟨counterEffect_code s s.ts, counterEffect_binary s s.ts⟩)
  case cteq =>
    rw [exec_cteq] at h
    exact computeFrame_resultFrom h (.inl ⟨setMatched_code s _, setMatched_binary s _⟩)
  case hotp =>
    rw [exec_hotp] at h
    exact computeFrame_resultFrom h (resultFrom_codeEffect s.ctr s)
  case genat =>
    rw [exec_genat] at h
    exact computeFrame_resultFrom h (resultFrom_generateEffect s.ts s)
  case now =>
    rw [exec_now] at h
    exact computeFrame_resultFrom h (resultFrom_generateEffect s.tSample s)
  case verifyat =>
    rw [exec_verifyat] at h
    exact computeFrame_resultFrom h (resultFrom_verifyEffect s.ts s)
  case verify =>
    rw [exec_verify] at h
    exact computeFrame_resultFrom h (resultFrom_verifyEffect s.tSample s)

/-! The whole invariant. -/

theorem machineInv_hwReset (s : State) : MachineInv (hwReset s) :=
  ⟨activeOk_reset _, (by decide : StatusOk Status.reset), codeOk_zeros, (by decide : (0 : Word32).toNat < 2 ^ 31)⟩

theorem machineInv_withScript {s : State} (h : MachineInv s) (script : List Event) :
    MachineInv (withScript script s) := ⟨h.active, h.status, h.code, h.binary⟩

/-- An error ends an accepted command with the flags of R24 and touches nothing else. -/
theorem machineInv_raiseErr {s : State} (h : MachineInv s) (hs : s.status = acceptedStatus) {c : ErrCode}
    (hc : c ≠ .none) : MachineInv (raiseErr c s) :=
  ⟨h.active, by simp [StatusOk, hs, acceptedStatus, hc], h.code, h.binary⟩

/-- The completion of a command that has no error pending sets the flags of R24. -/
theorem machineInv_complete {u : State} (hactive : ActiveOk u.algAvail u.active) (herr : u.status.err = false)
    (hnone : u.status.errCode = .none) (hcode : CodeOk u.code) (hbinary : u.binary.toNat < 2 ^ 31) :
    MachineInv (complete u) :=
  ⟨hactive, by simp [StatusOk, herr, hnone], hcode, hbinary⟩

/-- A command run on an accepted `STATUS` keeps the invariant. -/
theorem machineInv_exec {i : Instr} {s t : State} (h : MachineInv s) (hs : s.status = acceptedStatus)
    (he : exec i s = .next t) : MachineInv t := by
  have herr : s.status.err = false := by rw [hs]; rfl
  have hnone : s.status.errCode = .none := by rw [hs]; rfl
  obtain ⟨c, hc, rfl⟩ | ⟨a, -, hv, rfl⟩ | ⟨-, rfl⟩ | ⟨hc, hl, hvalid, u, rfl, hactive, havail, b, hstatus, -⟩ :=
    exec_next_cases he
  · exact machineInv_raiseErr h hs hc
  · exact machineInv_complete (activeOk_stagedConfig hv) herr hnone h.code h.binary
  · have hreset := machineInv_hwReset s
    exact machineInv_complete hreset.active rfl rfl hreset.code hreset.binary
  · have hok : ActiveOk u.algAvail u.active := by rw [hactive, havail]; exact h.active
    have herr' : u.status.err = false := by rw [hstatus]; exact herr
    have hnone' : u.status.errCode = .none := by rw [hstatus]; exact hnone
    obtain ⟨⟨hmin, hmax⟩, -⟩ := h.active.1 hvalid
    obtain ⟨hcode, hbinary⟩ | ⟨d, hcode, hbinary⟩ := exec_resultFrom hc hl he
    · exact machineInv_complete hok herr' hnone' (hcode ▸ h.code) (hbinary ▸ h.binary)
    · exact machineInv_complete hok herr' hnone' (hcode ▸ codeOk_truncate d hmin hmax)
        (hbinary ▸ truncBinary_toNat_lt d)

/-- An engine step on an accepted `STATUS` keeps the invariant. -/
theorem machineInv_engineStep {u t : State} (h : MachineInv u) (hs : u.status = acceptedStatus)
    (he : engineStep u = .next t) : MachineInv t := by
  obtain rfl | ⟨i, -, hi⟩ := engineStep_cases he
  · exact machineInv_raiseErr h hs (by decide)
  · exact machineInv_exec h hs hi

end Sys2Proof.Machine
end

section
/-! The family 10_state.md: the state elements, their reset values and their invariants. -/

namespace Sys2Proof.Machine

open Sys2Proof.Spec

/-- Settles O54: while a command is in progress the flags are those of its
acceptance, from which the engine step keeps the invariant; a reset establishes it,
and any other turn leaves what it speaks of, but for an acceptance. -/
theorem stepKeepsMachineInvariant : Obligations.StepKeepsMachineInvariant := by
  unfold Obligations.StepKeepsMachineInvariant
  intro s t h hstep
  obtain ⟨script, hbusy, -, he⟩ | ⟨rest, -, rfl⟩ | ⟨hactive, havail, hcode, hbinary, hstatus⟩ :=
    step_next_cases hstep
  · exact machineInv_engineStep (machineInv_withScript h script) (eq_acceptedStatus_of_busy h.status hbusy) he
  · exact machineInv_hwReset _
  · refine ⟨by rw [hactive, havail]; exact h.active, ?_, hcode ▸ h.code, hbinary ▸ h.binary⟩
    obtain hs | hs := hstatus <;> rw [hs]
    · exact h.status
    · decide

/-- A configuration that `CONFIGURE` accepts has no field that R132 refuses. -/
theorem not_bad_of_validate {s : State} {a : HashAlg}
    (h : validate s.algAvail s.cfgAlg s.cfgDigits s.cfgPeriod s.cfgKeylen = .ok a) : ¬ badAlg s ∧ ¬ badField s := by
  obtain ⟨⟨hcode, havail⟩, ⟨hmin, hmax⟩, hperiod, hkeylen, hkeyMax⟩ := validate_eq_ok_iff.mp h
  have := algCode_le a
  rw [algAvailable, hcode] at havail
  constructor
  · rintro (hlt | hfalse)
    · omega
    · simp [hfalse] at havail
  · rintro (hlt | hlt | hz | hz | hlt)
    · omega
    · omega
    · exact hperiod hz
    · exact hkeylen hz
    · omega

/-- Settles O56: of what a step can lead to, only a completed `CONFIGURE`, a
`CLEAR` and a reset write the active configuration, and the decoder reads these
commands from the words 1 and 2 only. -/
theorem activeConfigurationIsImmutable : Obligations.ActiveConfigurationIsImmutable := by
  unfold Obligations.ActiveConfigurationIsImmutable
  intro s t hstep
  obtain ⟨script, -, hturn, he⟩ | ⟨rest, hscript, rfl⟩ | ⟨hactive, havail, -⟩ := step_next_cases hstep
  · obtain rfl | ⟨i, hlatch, hi⟩ := engineStep_cases he
    · exact ⟨rfl, .inl rfl⟩
    obtain ⟨c, -, rfl⟩ | ⟨a, rfl, hv, rfl⟩ | ⟨rfl, rfl⟩ | ⟨-, -, -, u, rfl, hactive, havail, -⟩ :=
      exec_next_cases hi
    · exact ⟨rfl, .inl rfl⟩
    · obtain ⟨halg, hfield⟩ := not_bad_of_validate (s := s) hv
      exact ⟨rfl, .inr (.inl ⟨_, hturn, hlatch, halg, hfield, rfl, rfl, (validate_eq_ok_iff.mp hv).1.1, rfl, rfl⟩)⟩
    · exact ⟨rfl, .inr (.inr (.inl ⟨_, hturn, hlatch, rfl⟩))⟩
    · exact ⟨havail, .inl hactive⟩
  · exact ⟨rfl, .inr (.inr (.inr ⟨rest, hscript, rfl⟩))⟩
  · exact ⟨havail, .inl hactive⟩

/-- Settles O26: an error and the effects of the compute commands leave
`CFG_VALID`, and `MATCH` is left clear but by the three commands that compare. -/
theorem flagsWrittenByCommands : Obligations.FlagsWrittenByCommands := by
  unfold Obligations.FlagsWrittenByCommands
  intro i s t h hs
  obtain ⟨c, -, rfl⟩ | ⟨a, rfl, -, rfl⟩ | ⟨rfl, rfl⟩ | ⟨-, -, -, u, rfl, hactive, -, b, hstatus, hb⟩ :=
    exec_next_cases h
  · simp [hs]
  · simp [hs, stagedConfig]
  · simp [Status.reset, ActiveConfig.reset]
  · simp only [hs] at hstatus hb
    obtain rfl | hi := hb
    · simp [hstatus, hactive]
    · simp [hstatus, hactive, hi]

/-- The checks of R132 on the staging registers as reset leaves them: code 0 is
SHA1, and where that is available no digits are asked for. -/
theorem validate_zeros (avail : BitVec 3) : validate avail 0 0 0 0 =
    .error (if avail.getLsbD 0 then .invalidConfiguration else .unsupportedAlgorithm) := by
  revert avail
  decide

/-- Settles O9: the table of R48 is read off the reset state, and `CONFIGURE`
raises the error that `validate` gives for the staging registers there. -/
theorem resetStateValues : Obligations.ResetStateValues := by
  unfold Obligations.ResetStateValues
  refine ⟨by decide, rfl, rfl, rfl, rfl, rfl, rfl, rfl, rfl, rfl, rfl, rfl, rfl, rfl, rfl, rfl, rfl, rfl, rfl, rfl,
    rfl, rfl, rfl, rfl, fun time => ⟨rfl, rfl, rfl, rfl⟩, fun avail => ?_⟩
  exact exec_configure_of_error (validate_zeros avail)

/-- The flag bits of `STATUS` (R24). -/
theorem statusWord_flags (s : State) :
    (statusWord s).getLsbD 0 = s.status.busy ∧ (statusWord s).getLsbD 1 = s.status.done ∧
    (statusWord s).getLsbD 2 = s.status.err ∧ (statusWord s).getLsbD 3 = s.active.valid ∧
    (statusWord s).getLsbD 4 = s.status.matched := by
  simp only [statusWord, BitVec.getLsbD_setWidth, BitVec.getLsbD_append]
  simp

/-- `ERRCODE` and the reserved bits of `STATUS`, each reached by dropping the
fields below it (R24). -/
theorem statusWord_fields (s : State) :
    (statusWord s).extractLsb' 5 3 = 0 ∧ (statusWord s).extractLsb' 8 8 = errNumber s.status.errCode ∧
    (statusWord s).extractLsb' 16 16 = 0 := by
  simp (disch := decide) only [statusWord, BitVec.setWidth_eq, BitVec.extractLsb'_append_eq_of_le]
  exact ⟨BitVec.extractLsb'_append_eq_right, BitVec.extractLsb'_append_eq_right, rfl⟩

/-- The fields of `CAP`, reached in the same way (R22). -/
theorem capWord_fields (s : State) :
    (capWord s).extractLsb' 0 3 = s.algAvail ∧ (capWord s).extractLsb' 3 13 = 0 ∧
    (capWord s).extractLsb' 16 16 = 256 := by
  simp (disch := decide) only [capWord, BitVec.setWidth_eq, BitVec.extractLsb'_append_eq_of_le]
  exact ⟨BitVec.extractLsb'_append_eq_right, BitVec.extractLsb'_append_eq_right, rfl⟩

/-- Settles O19: the flags and fields of `STATUS`, those of `CAP`, and the numbers of R290. -/
theorem statusAndCapFields : Obligations.StatusAndCapFields := by
  unfold Obligations.StatusAndCapFields
  refine ⟨fun s => ?_, rfl, rfl, rfl, rfl, rfl⟩
  obtain ⟨hbusy, hdone, herr, hvalid, hmatched⟩ := statusWord_flags s
  obtain ⟨hlow, herrcode, hhigh⟩ := statusWord_fields s
  exact ⟨hbusy, hdone, herr, hvalid, hmatched, hlow, herrcode, hhigh, capWord_fields s⟩

/-- Settles O55: the reset state is what a reset leaves of itself. -/
theorem resetMeetsMachineInvariant : Obligations.ResetMeetsMachineInvariant :=
  machineInv_hwReset State.reset

end Sys2Proof.Machine
end

section
/-! Facts about the register map and the bus that the family 20_memory.md rests on:
each register has one offset (R20), and an access is settled by the register at its
offset and by `BUSY` (R72, R73, R77). -/

namespace Sys2Proof.Machine

open Sys2Proof.Spec

/-! The register map. -/

/-- The offset of a register (R20). -/
def regOffset : Reg → Nat
  | .id => 0x000
  | .cap => 0x004
  | .cmd => 0x008
  | .status => 0x00C
  | .cfgDigits => 0x010
  | .cfgAlg => 0x014
  | .cfgPeriod => 0x018
  | .cfgKeylen => 0x01C
  | .window => 0x020
  | .candLen => 0x024
  | .tsLo => 0x028
  | .tsHi => 0x02C
  | .ctrLo => 0x030
  | .ctrHi => 0x034
  | .timeLo => 0x038
  | .timeHi => 0x03C
  | .tusedLo => 0x040
  | .tusedHi => 0x044
  | .binary => 0x048
  | .cand j => 0x050 + 4 * j
  | .code j => 0x060 + 4 * j
  | .digest j => 0x080 + 4 * j
  | .key j => 0x100 + 4 * j

/-- The register is one of the map: the word of a buffer is inside it (R20). -/
def Reg.OnMap : Reg → Prop
  | .cand j | .code j => j < 4
  | .digest j => j < 16
  | .key j => j < 64
  | _ => True

/-- What stands at an offset is the register of that offset. -/
theorem regAt_eq_some {off : Nat} {r : Reg} (h : regAt off = some r) : off = regOffset r ∧ r.OnMap := by
  unfold regAt regAtWord at h
  split at h
  case isFalse => cases h
  case isTrue haligned =>
    split at h
    case h_20 =>
      split_ifs at h <;> cases h <;> simp only [regOffset, Reg.OnMap] <;> omega
    all_goals cases h; exact ⟨rfl, trivial⟩

/-- Every register of the map stands at its offset. -/
theorem regAt_regOffset {r : Reg} (h : r.OnMap) : regAt (regOffset r) = some r := by
  cases r
  case cand j => exact (by decide : ∀ j < 4, regAt (0x050 + 4 * j) = some (.cand j)) j h
  case code j => exact (by decide : ∀ j < 4, regAt (0x060 + 4 * j) = some (.code j)) j h
  case digest j => exact (by decide : ∀ j < 16, regAt (0x080 + 4 * j) = some (.digest j)) j h
  case key j => exact (by decide : ∀ j < 64, regAt (0x100 + 4 * j) = some (.key j)) j h
  all_goals rfl

/-- No register stands at exactly the offsets of R77 (1) to (3). -/
theorem regAt_eq_none_iff {off : Nat} : regAt off = none ↔ unmapped off := by
  constructor
  · intro h
    unfold regAt regAtWord at h
    split at h
    case isFalse haligned =>
      simp only [Config.regSpaceBytes] at haligned
      unfold unmapped
      omega
    case isTrue haligned =>
      simp only [Config.regSpaceBytes] at haligned
      split at h
      case h_20 =>
        split_ifs at h
        simp only [imp_false] at *
        unfold unmapped
        omega
      all_goals cases h
  · intro h
    cases hr : regAt off with
    | none => rfl
    | some r =>
      obtain ⟨rfl, hmap⟩ := regAt_eq_some hr
      cases r <;> simp only [unmapped, regOffset, Reg.OnMap] at h hmap <;> omega

/-- The five registers of R78 are those at its five offsets. -/
theorem readableWhileBusy_iff {off : Nat} {r : Reg} (h : regAt off = some r) :
    readableWhileBusy r = true ↔ alwaysReadable off := by
  obtain ⟨rfl, hmap⟩ := regAt_eq_some h
  cases r <;> simp [readableWhileBusy, alwaysReadable, regOffset] <;> omega

/-- A register takes no write exactly when its offset is that of a read-only one (R20, R73). -/
theorem regStore_eq_none_iff {off : Nat} {r : Reg} (h : regAt off = some r) (data : Word32) (time : Word64)
    (s : State) : regStore r data time s = none ↔ readOnly off := by
  obtain ⟨rfl, hmap⟩ := regAt_eq_some h
  cases r <;> simp [regStore, readOnly, regOffset, Reg.OnMap] at hmap ⊢ <;> omega

/-! Reads (R72). -/

section
variable {off : Nat} {r : Reg} {time : Word64} {s : State}

/-- A read that `BUSY` does not bar answers with the word of the register. -/
theorem regRead_eq_data (hr : regAt off = some r) (h : s.status.busy = false ∨ readableWhileBusy r = true) :
    regRead off time s = .data (regValue r time s) := by
  obtain h | h := h <;> simp [regRead, hr, h]

/-- A read at an offset with no register, or barred by `BUSY`, gets `ERR` (R77, R78). -/
theorem regRead_eq_busErr_iff :
    regRead off time s = .busErr ↔ unmapped off ∨ (s.status.busy = true ∧ ¬ alwaysReadable off) := by
  rw [← regAt_eq_none_iff]
  cases hr : regAt off with
  | none => simp [regRead, hr]
  | some r =>
    rw [← readableWhileBusy_iff hr]
    cases hb : s.status.busy <;> cases ha : readableWhileBusy r <;> simp [regRead, hr, hb, ha]

/-- Two states with the same `BUSY` in which every register has the same word
answer every read alike. -/
theorem regRead_congr {t : State} (hbusy : t.status.busy = s.status.busy)
    (hvalue : ∀ r, regValue r time t = regValue r time s) : regRead off time t = regRead off time s := by
  simp [regRead, hbusy, hvalue]

end

/-- A bus read takes no notice of the script. -/
theorem regRead_withScript (off : Nat) (time : Word64) (script : List Event) (s : State) :
    regRead off time (withScript script s) = regRead off time s :=
  regRead_congr rfl fun r => by cases r <;> rfl

/-- `STATUS` shows of the hidden state only whether a configuration is active (R24, R43). -/
theorem statusWord_congr {s t : State} (hstatus : t.status = s.status) (hvalid : t.active.valid = s.active.valid) :
    statusWord t = statusWord s := by
  rw [statusWord, statusWord, hstatus, hvalid]

/-! Writes (R73). -/

section
variable {off : Nat} {r : Reg} {data : Word32} {time : Word64} {s : State}

/-- A write to a register that takes it, while `BUSY = 0`, is done. -/
theorem regWrite_eq_ack {t : State} (hr : regAt off = some r) (hb : s.status.busy = false)
    (ht : regStore r data time s = some t) : regWrite off data time s = (t, .ack) := by
  simp [regWrite, hr, hb, ht]

/-- A write that is not done gets `ERR` and changes nothing (R77). -/
theorem regWrite_eq_busErr (h : unmapped off ∨ readOnly off ∨ s.status.busy = true) :
    regWrite off data time s = (s, .busErr) := by
  obtain hw | ⟨hb, r, t, hr, ht, -⟩ := regWrite_cases off data time s
  · exact hw
  · obtain h | h | h := h
    · rw [regAt_eq_none_iff.mpr h] at hr; cases hr
    · rw [(regStore_eq_none_iff hr data time s).mpr h] at ht; cases ht
    · rw [hb] at h; cases h

/-- A write gets `ERR` in exactly the cases of R77. -/
theorem regWrite_snd_eq_busErr_iff :
    (regWrite off data time s).2 = .busErr ↔ unmapped off ∨ readOnly off ∨ s.status.busy = true := by
  refine ⟨fun h => ?_, fun h => by rw [regWrite_eq_busErr h]⟩
  cases hr : regAt off with
  | none => exact .inl (regAt_eq_none_iff.mp hr)
  | some r =>
    cases hb : s.status.busy with
    | true => exact .inr (.inr rfl)
    | false =>
      cases ht : regStore r data time s with
      | none => exact .inr (.inl ((regStore_eq_none_iff hr data time s).mp ht))
      | some t => rw [regWrite_eq_ack hr hb ht] at h; cases h

end

/-! The one-word read-write registers. -/

/-- The ten one-word read-write registers (R25 to R32). -/
def Reg.isWordRW : Reg → Bool
  | .cfgDigits | .cfgAlg | .cfgPeriod | .cfgKeylen | .window | .candLen | .tsLo | .tsHi | .ctrLo | .ctrHi => true
  | _ => false

/-- They are the registers at the offsets from 0x010 to 0x034 (R20). -/
theorem regAt_wordRW {off : Nat} (hle : 0x010 ≤ off) (hge : off ≤ 0x034) (haligned : off % 4 = 0) :
    ∃ r, regAt off = some r ∧ r.isWordRW = true := by
  cases hr : regAt off with
  | none => have := regAt_eq_none_iff.mp hr; unfold unmapped at this; omega
  | some r =>
    obtain ⟨rfl, hmap⟩ := regAt_eq_some hr
    cases r <;> simp [Reg.isWordRW, regOffset] at hle hge ⊢ <;> omega

section
variable {r : Reg} {data : Word32} {time : Word64} {s t : State}

/-- A one-word read-write register takes every write (R73). -/
theorem regStore_wordRW (hr : r.isWordRW = true) (data : Word32) (time : Word64) (s : State) :
    ∃ t, regStore r data time s = some t := by
  cases r <;> cases hr <;> exact ⟨_, rfl⟩

/-- Its write leaves `STATUS`, the secret and the hidden state. -/
theorem regStore_wordRW_frame (hr : r.isWordRW = true) (h : regStore r data time s = some t) :
    t.status = s.status ∧ t.active = s.active ∧ t.key = s.key ∧ t.cmdLatch = s.cmdLatch ∧
      t.tSample = s.tSample ∧ t.algAvail = s.algAvail ∧ t.env = s.env := by
  cases r <;> cases hr <;> cases h <;> exact ⟨rfl, rfl, rfl, rfl, rfl, rfl, rfl⟩

/-- It holds the whole word written to it. -/
theorem regValue_regStore_same (hr : r.isWordRW = true) (h : regStore r data time s = some t) (now : Word64) :
    regValue r now t = data := by
  cases r <;> cases hr <;> cases h <;> simp [regValue]

/-- No other register has another word then: only the two halves of one quantity
share a state element, and a write of one keeps the other (R74). -/
theorem regValue_regStore_ne {r' : Reg} (hr : r.isWordRW = true) (h : regStore r data time s = some t)
    (hne : r' ≠ r) (now : Word64) : regValue r' now t = regValue r' now s := by
  obtain ⟨hstatus, hactive, -, -, -, havail, -⟩ := regStore_wordRW_frame hr h
  cases r'
  case status => exact statusWord_congr hstatus (by rw [hactive])
  case cap => rw [regValue, regValue, capWord, capWord, havail]
  all_goals cases r <;> cases hr <;> cases h <;> simp [regValue] at hne ⊢

end

/-! The words of a buffer (R75). -/

/-- A write of a word inside a buffer stores its four bytes, the first from bits 7:0. -/
theorem bufSetWord_lanes {n : Nat} (x : Vector Byte n) {j : Nat} (w : Word32) (hj : 4 * j + 3 < n) :
    bufByte (bufSetWord x j w) (4 * j) = w.extractLsb' 0 8 ∧
    bufByte (bufSetWord x j w) (4 * j + 1) = w.extractLsb' 8 8 ∧
    bufByte (bufSetWord x j w) (4 * j + 2) = w.extractLsb' 16 8 ∧
    bufByte (bufSetWord x j w) (4 * j + 3) = w.extractLsb' 24 8 := by
  refine ⟨?_, ?_, ?_, ?_⟩ <;> rw [bufByte_bufSetWord x w (by omega)] <;> simp

/-- It leaves the bytes of the other words. -/
theorem bufByte_bufSetWord_of_ne {n : Nat} (x : Vector Byte n) {j k : Nat} (w : Word32) (hk : k < n)
    (hne : k / 4 ≠ j) : bufByte (bufSetWord x j w) k = bufByte x k := by
  rw [bufByte_bufSetWord x w hk, if_neg (by omega), if_neg (by omega), if_neg (by omega), if_neg (by omega)]

end Sys2Proof.Machine
end

section
/-! The family 20_memory.md: the transactions of the register bus. -/

namespace Sys2Proof.Machine

open Sys2Proof.Spec

/-- Settles O10: an access without a register at its offset is refused, and one with
a register is refused by `BUSY` or by the rights of the register. -/
theorem busErrorsExactly : Obligations.BusErrorsExactly := by
  unfold Obligations.BusErrorsExactly
  intro off data time s
  refine ⟨regRead_eq_busErr_iff, regWrite_snd_eq_busErr_iff, fun h => ?_, fun h => ?_⟩
  · rw [regWrite_eq_busErr (regWrite_snd_eq_busErr_iff.mp h)]
  · obtain hw | ⟨-, r, t, -, -, hw⟩ := regWrite_cases off data time s
    · exact absurd (congrArg Prod.snd hw) h
    · exact congrArg Prod.snd hw

/-- Settles O12: the word of a buffer reads as the four bytes it is made of. -/
theorem bufferReadsInLaneOrder : Obligations.BufferReadsInLaneOrder := by
  unfold Obligations.BufferReadsInLaneOrder
  intro time s j hb
  refine ⟨fun hj => ?_, fun hj => ?_, fun hj => ?_⟩
  · exact ⟨_, regRead_eq_data (regAt_regOffset (r := .cand j) hj) (.inl hb), bufWord_lanes s.cand j⟩
  · exact ⟨_, regRead_eq_data (regAt_regOffset (r := .code j) hj) (.inl hb), bufWord_lanes s.code j⟩
  · exact ⟨_, regRead_eq_data (regAt_regOffset (r := .digest j) hj) (.inl hb), bufWord_lanes s.digest j⟩

/-- Settles O13: the write replaces one buffer, and in it the four bytes of one word. -/
theorem bufferWritesInLaneOrder : Obligations.BufferWritesInLaneOrder := by
  unfold Obligations.BufferWritesInLaneOrder
  intro time s j data hb
  refine ⟨fun hj => ?_, fun hj => ?_⟩
  · obtain ⟨h0, h1, h2, h3⟩ := bufSetWord_lanes s.cand (j := j) data (by omega)
    exact ⟨_, regWrite_eq_ack (regAt_regOffset (r := .cand j) hj) hb rfl, h0, h1, h2, h3,
      fun k hk hne => bufByte_bufSetWord_of_ne s.cand data hk hne, rfl⟩
  · obtain ⟨h0, h1, h2, h3⟩ := bufSetWord_lanes s.key (j := j) data (by omega)
    exact ⟨_, regWrite_eq_ack (regAt_regOffset (r := .key j) hj) hb rfl, h0, h1, h2, h3,
      fun k hk hne => bufByte_bufSetWord_of_ne s.key data hk hne, rfl⟩

/-- Settles O14: the register at the offset holds the word, and another offset has
another register, or none. -/
theorem registerWriteReadsBack : Obligations.RegisterWriteReadsBack := by
  unfold Obligations.RegisterWriteReadsBack
  intro off data time s hb hle hge haligned
  obtain ⟨r, hr, hrw⟩ := regAt_wordRW hle hge haligned
  obtain ⟨t, ht⟩ := regStore_wordRW hrw data time s
  obtain ⟨hstatus, hhidden⟩ := regStore_wordRW_frame hrw ht
  have hb' : t.status.busy = false := by rw [hstatus, hb]
  refine ⟨t, regWrite_eq_ack hr hb ht, fun now => ?_, fun off' now hne => ?_, hstatus, hhidden⟩
  · rw [regRead_eq_data hr (.inl hb'), regValue_regStore_same hrw ht]
  · cases hr' : regAt off' with
    | none => simp [regRead, hr']
    | some r' =>
      have hne' : r' ≠ r := by
        rintro rfl
        exact hne ((regAt_eq_some hr').1.trans (regAt_eq_some hr).1.symm)
      rw [regRead_eq_data hr' (.inl hb'), regRead_eq_data hr' (.inl hb), regValue_regStore_ne hrw ht hne']

/-- Settles O15: a read-only register takes no write, and the word of `CMD` and of
`KEY` is 0 in every state. -/
theorem accessRightsHold : Obligations.AccessRightsHold := by
  unfold Obligations.AccessRightsHold
  intro off data time s
  refine ⟨fun h => regWrite_eq_busErr (.inr (.inl h)), fun hb haligned hoff => ?_⟩
  obtain rfl | ⟨hle, hge⟩ := hoff
  · exact regRead_eq_data (r := .cmd) rfl (.inl hb)
  · obtain ⟨j, rfl⟩ : ∃ j, off = regOffset (.key j) := ⟨(off - 0x100) / 4, by simp only [regOffset]; omega⟩
    have hj : j < 64 := by simp only [regOffset] at hge; omega
    exact regRead_eq_data (regAt_regOffset (r := .key j) hj) (.inl hb)

/-- Settles O17: `BUSY` refuses every write, and every read but those of the five
registers that are readable at any time. -/
theorem busyFreezesRegisters : Obligations.BusyFreezesRegisters := by
  unfold Obligations.BusyFreezesRegisters
  intro s hb
  refine ⟨fun off data time => regWrite_eq_busErr (.inr (.inr hb)),
    fun off time h => regRead_eq_busErr_iff.mpr (.inr ⟨hb, h⟩), fun off time h => ?_⟩
  obtain rfl | rfl | rfl | rfl | rfl := h
  · exact ⟨_, regRead_eq_data (r := .id) rfl (.inr rfl)⟩
  · exact ⟨_, regRead_eq_data (r := .cap) rfl (.inr rfl)⟩
  · exact ⟨_, regRead_eq_data (r := .status) rfl (.inr rfl)⟩
  · exact ⟨_, regRead_eq_data (r := .timeLo) rfl (.inr rfl)⟩
  · exact ⟨_, regRead_eq_data (r := .timeHi) rfl (.inr rfl)⟩

/-- Settles O18: of the registers only `STATUS` shows any of that state, and of it
only whether a configuration is active. -/
theorem hiddenStateIsUnreadable : Obligations.HiddenStateIsUnreadable := by
  unfold Obligations.HiddenStateIsUnreadable
  intro s key a w sample hvalid off time
  refine regRead_congr rfl fun r => ?_
  cases r
  case status => exact statusWord_congr rfl hvalid
  all_goals rfl

/-- Settles O6: the turn is the transaction, which takes no notice of the script and
leaves the record but for its own answer. -/
theorem hostTransactionIsOneStep : Obligations.HostTransactionIsOneStep := by
  unfold Obligations.HostTransactionIsOneStep
  intro s off data time rest
  have hturn (op : BusOp) (h : s.env.script = .bus op time :: rest) :
      step s = .next (busStep op time (withScript rest s)) := step_settled (by simp [nextTurn, h])
  refine ⟨fun h => ?_, fun h => ?_⟩
  · rw [hturn _ h, busStep, regRead_withScript]
    rfl
  · rw [hturn _ h, busStep, regWrite_withScript, ← regWrite_env off data time s]
    rfl

/-- Settles O11: the register at each offset, and the word that it reads as. -/
theorem registersReadTheirValues : Obligations.RegistersReadTheirValues := by
  unfold Obligations.RegistersReadTheirValues
  intro time s
  refine ⟨⟨regRead_eq_data (r := .id) rfl (.inr rfl), regRead_eq_data (r := .cap) rfl (.inr rfl),
    regRead_eq_data (r := .status) rfl (.inr rfl), regRead_eq_data (r := .timeLo) rfl (.inr rfl),
    regRead_eq_data (r := .timeHi) rfl (.inr rfl)⟩, fun hb => ?_⟩
  exact ⟨regRead_eq_data (r := .cmd) rfl (.inl hb), regRead_eq_data (r := .cfgDigits) rfl (.inl hb),
    regRead_eq_data (r := .cfgAlg) rfl (.inl hb), regRead_eq_data (r := .cfgPeriod) rfl (.inl hb),
    regRead_eq_data (r := .cfgKeylen) rfl (.inl hb), regRead_eq_data (r := .window) rfl (.inl hb),
    regRead_eq_data (r := .candLen) rfl (.inl hb), regRead_eq_data (r := .tsLo) rfl (.inl hb),
    regRead_eq_data (r := .tsHi) rfl (.inl hb), regRead_eq_data (r := .ctrLo) rfl (.inl hb),
    regRead_eq_data (r := .ctrHi) rfl (.inl hb), regRead_eq_data (r := .tusedLo) rfl (.inl hb),
    regRead_eq_data (r := .tusedHi) rfl (.inl hb), regRead_eq_data (r := .binary) rfl (.inl hb)⟩

end Sys2Proof.Machine
end

section
/-! Facts that the family 30_encoding.md rests on: the words that the decoder reads
(R100, R101, R104), the engine step on them (R103, R104), the errors of `CONFIGURE`
(R132), and the lengths of what the hash functions and HMAC give (R105). -/

namespace Sys2Proof.Machine

/-! The decoder. -/

/-- The decoder reads the word of a command as that command (R101). -/
theorem decode_encode (i : Instr) : decode (encode i) = .ok i := by
  cases i with
  | configure => exact Laws.RoundTrip.configure.2
  | clear => exact Laws.RoundTrip.clear.2
  | hmac => exact Laws.RoundTrip.hmac.2
  | trunc => exact Laws.RoundTrip.trunc.2
  | ts2ctr => exact Laws.RoundTrip.ts2ctr.2
  | cteq => exact Laws.RoundTrip.cteq.2
  | hotp => exact Laws.RoundTrip.hotp.2
  | genat => exact Laws.RoundTrip.genat.2
  | now => exact Laws.RoundTrip.now.2
  | verifyat => exact Laws.RoundTrip.verifyat.2
  | verify => exact Laws.RoundTrip.verify.2

/-- The decoder reads a command where bits 31:8 are clear and the table of R101 has
the opcode, and there the command of that row. -/
theorem decode_eq_ok_iff {w : Word32} {i : Instr} :
    decode w = .ok i ↔ w.extractLsb' 8 24 = 0 ∧ opcodeTable.lookup (w.extractLsb' 0 8) = some i := by
  unfold decode
  split_ifs with hzero
  · cases opcodeTable.lookup (w.extractLsb' 0 8) <;> simp [hzero]
  · exact ⟨nofun, fun h => absurd h.1 hzero⟩

/-- The opcodes in the table of R101 are those that R104 does not reserve. -/
theorem opcodeTable_lookup_isSome_iff (op : BitVec 8) :
    (opcodeTable.lookup op).isSome = true ↔ op.toNat = 0x01 ∨ op.toNat = 0x02 ∨
      (0x10 ≤ op.toNat ∧ op.toNat ≤ 0x13) ∨ (0x20 ≤ op.toNat ∧ op.toNat ≤ 0x24) := by
  revert op
  decide

/-- The legal command words, field by field (R104). -/
theorem exists_decode_eq_ok_iff {w : Word32} :
    (∃ i, decode w = .ok i) ↔ w.extractLsb' 8 24 = 0 ∧
      ((w.extractLsb' 0 8).toNat = 0x01 ∨ (w.extractLsb' 0 8).toNat = 0x02 ∨
        (0x10 ≤ (w.extractLsb' 0 8).toNat ∧ (w.extractLsb' 0 8).toNat ≤ 0x13) ∨
        (0x20 ≤ (w.extractLsb' 0 8).toNat ∧ (w.extractLsb' 0 8).toNat ≤ 0x24)) := by
  simp only [decode_eq_ok_iff, exists_and_left, ← Option.isSome_iff_exists, opcodeTable_lookup_isSome_iff]

/-! The engine step (R103, R104). -/

theorem engineStep_of_decode {u : State} {i : Instr} (h : decode u.cmdLatch = .ok i) :
    engineStep u = exec i u := by
  simp [engineStep, h]

theorem engineStep_of_illegal {u : State} (h : ¬ ∃ i, decode u.cmdLatch = .ok i) :
    engineStep u = .next (raiseErr .illegalCommand u) := by
  cases hd : decode u.cmdLatch with
  | ok i => exact absurd ⟨i, hd⟩ h
  | error e => simp [engineStep, hd]

/-! `CONFIGURE`. -/

/-- The two errors that a check of R132 can give. -/
theorem validate_error_cases {avail : BitVec 3} {alg digits period keylen : Word32} {c : ErrCode}
    (h : validate avail alg digits period keylen = .error c) :
    c = .unsupportedAlgorithm ∨ c = .invalidConfiguration := by
  unfold validate at h
  split at h
  next => cases h; exact .inl rfl
  next => split_ifs at h <;> cases h <;> exact .inr rfl

/-! Output lengths: a hash writes out its words, five or eight of them (R156, R163, R170). -/

@[simp] theorem sha1_length (m : List Byte) : (sha1 m).length = 20 := wordsOut_length _

@[simp] theorem sha2Digest_length {w : Nat} (p : Sha2Fns w) (padded : List Byte) :
    (sha2Digest p padded).length = 8 * (w / 8) := wordsOut_length _

/-- The output length of each hash function (R105). -/
@[simp] theorem hashBytes_length (alg : HashAlg) (m : List Byte) : (hashBytes alg m).length = digestBytes alg := by
  cases alg with
  | sha1 => exact sha1_length m
  | sha256 => exact sha2Digest_length sha256Fns (pad64 m)
  | sha512 => exact sha2Digest_length sha512Fns (pad128 m)

/-- HMAC gives what its outer hash gives (R193). -/
@[simp] theorem hmac_length (alg : HashAlg) (key msg : List Byte) : (hmac alg key msg).length = digestBytes alg :=
  hashBytes_length alg _

end Sys2Proof.Machine
end

section
/-! The family 30_encoding.md: the command words, their acceptance and the engine
step that runs them, and the variants. -/

namespace Sys2Proof.Machine

/-- Settles O2: a word that decodes is its two fields put together again, and each
command's word decodes to it. -/
theorem decodeReadsExactlyTheEncodings : Obligations.DecodeReadsExactlyTheEncodings := by
  unfold Obligations.DecodeReadsExactlyTheEncodings
  intro w i
  constructor
  · exact eq_encode_of_decode
  · rintro rfl
    exact decode_encode i

/-- Settles O3: the listed words are those that decode to no command, and the
others those that decode. -/
theorem illegalWordsOnlySetError : Obligations.IllegalWordsOnlySetError := by
  unfold Obligations.IllegalWordsOnlySetError
  intro u
  refine ⟨fun hillegal => ?_, fun hlegal => ?_⟩
  · refine engineStep_of_illegal fun hdecode => ?_
    obtain ⟨hzero, hop⟩ := exists_decode_eq_ok_iff.mp hdecode
    obtain hne | hreserved := hillegal
    · exact hne hzero
    · simp only at hreserved
      omega
  · obtain ⟨i, hi⟩ := exists_decode_eq_ok_iff.mpr hlegal
    exact ⟨i, hi, engineStep_of_decode hi⟩

/-- Settles O24: `CONFIGURE` raises its own two errors only, `CLEAR` raises none,
and the frame of a compute command looks at the configuration first. -/
theorem computeNeedsConfiguration : Obligations.ComputeNeedsConfiguration := by
  unfold Obligations.ComputeNeedsConfiguration
  intro i s t h hnone
  obtain ⟨rfl, he⟩ | ⟨rfl, he⟩ | ⟨hc, hl, f, he, -, hstatus⟩ := exec_cases s i <;> rw [he] at h
  · obtain ⟨c, hv, hx⟩ | ⟨a, -, hx⟩ := execConfigure_cases s <;> rw [hx] at h <;> cases h
    · obtain rfl | rfl := validate_error_cases hv <;> simp
    · simp [hnone]
  · cases h
    simp [Status.reset]
  · obtain ⟨hvalid, hx⟩ | ⟨hvalid, hx⟩ := computeFrame_cases f s <;> rw [hx] at h <;> cases h
    · have hcode : (f s).status.errCode = .none := by
        obtain hs | ⟨-, b, hs⟩ := hstatus <;> simp [hs, hnone]
      simp [hcode, hvalid]
    · simp [hvalid, hc, hl]

/-- Settles O30: a hash gives the bytes of its words, whatever the blocks made of
them, and HMAC ends with a hash. -/
theorem digestLengths : Obligations.DigestLengths := by
  unfold Obligations.DigestLengths
  intro alg key msg
  exact ⟨hashBytes_length alg msg, hmac_length alg key msg, ⟨rfl, rfl, rfl⟩, rfl, rfl, rfl⟩

/-- Settles O1: the words of the table are the encodings of its commands. -/
theorem commandWordsDecode : Obligations.CommandWordsDecode := by
  unfold Obligations.CommandWordsDecode
  exact ⟨decode_encode .configure, decode_encode .clear, decode_encode .hmac, decode_encode .trunc,
    decode_encode .ts2ctr, decode_encode .cteq, decode_encode .hotp, decode_encode .genat, decode_encode .now,
    decode_encode .verifyat, decode_encode .verify⟩

/-- Settles O4: the step of the engine's turn is the engine step, which runs what the
latched word decodes to. -/
theorem engineStepRunsDecodedCommand : Obligations.EngineStepRunsDecodedCommand := by
  unfold Obligations.EngineStepRunsDecodedCommand
  intro s u i hturn _ hdecode
  rw [step_engine hturn, engineStep_of_decode hdecode]

/-- Settles O16: `CMD` takes a write by the acceptance of its word, and `BUSY` refuses it. -/
theorem commandAcceptance : Obligations.CommandAcceptance := by
  unfold Obligations.CommandAcceptance
  intro data time s
  exact ⟨fun hb => regWrite_eq_ack (r := .cmd) rfl hb rfl, fun hb => regWrite_eq_busErr (.inr (.inr hb))⟩

end Sys2Proof.Machine
end

section
/-! Facts that the family 40_config.md rests on: which check of `validate` decides
(R130, R132), what `commit` copies (R133), and that the effects of the compute
commands leave the staging registers out (R45, R135). -/

namespace Sys2Proof.Machine

/-! The checks of `validate` (R132). -/

/-- The algorithm codes are 0 to 2 (R105). -/
theorem exists_algCode_eq {n : Nat} (h : n ≤ 2) : ∃ a, algCode a = n := by
  match n, h with
  | 0, _ => exact ⟨.sha1, rfl⟩
  | 1, _ => exact ⟨.sha256, rfl⟩
  | 2, _ => exact ⟨.sha512, rfl⟩

/-- Check 1 fails for the codes that name no algorithm and for those whose bit of
`ALG_AVAIL` is clear. -/
theorem resolveAlg_eq_none_iff {avail : BitVec 3} {code : Word32} :
    resolveAlg avail code = none ↔ 2 < code.toNat ∨ avail.getLsbD code.toNat = false := by
  simp only [Option.eq_none_iff_forall_ne_some, ne_eq, resolveAlg_eq_some_iff, algAvailable]
  constructor
  · intro h
    by_cases hcode : code.toNat ≤ 2
    · obtain ⟨a, ha⟩ := exists_algCode_eq hcode
      have hbit : ¬ avail.getLsbD (algCode a) = true := fun hbit => h a ⟨ha, hbit⟩
      exact .inr (by simpa [ha] using hbit)
    · exact .inl (by omega)
  · rintro hbad a ⟨ha, hbit⟩
    rw [ha] at hbit
    obtain hlt | hclear := hbad
    · have := algCode_le a
      omega
    · simp [hclear] at hbit

/-- Check 1 comes first: its error does not depend on the other values. -/
theorem validate_eq_unsupported_iff {avail : BitVec 3} {alg digits period keylen : Word32} :
    validate avail alg digits period keylen = .error .unsupportedAlgorithm ↔
      2 < alg.toNat ∨ avail.getLsbD alg.toNat = false := by
  rw [← resolveAlg_eq_none_iff, validate]
  cases resolveAlg avail alg with
  | none => simp
  | some a => simp only; split_ifs <;> simp

/-- With check 1 passed, an illegal value of another field decides the error. -/
theorem validate_eq_invalid {avail : BitVec 3} {alg digits period keylen : Word32}
    (halg : ¬ (2 < alg.toNat ∨ avail.getLsbD alg.toNat = false))
    (hfield : digits.toNat < 6 ∨ 10 < digits.toNat ∨ period = 0 ∨ keylen = 0 ∨ 256 < keylen.toNat) :
    validate avail alg digits period keylen = .error .invalidConfiguration := by
  cases hv : validate avail alg digits period keylen with
  | ok a =>
    obtain ⟨-, ⟨hmin, hmax⟩, hperiod, hkeylen, hkeyMax⟩ := validate_eq_ok_iff.mp hv
    obtain hlt | hlt | hz | hz | hlt := hfield
    · omega
    · omega
    · exact absurd hz hperiod
    · exact absurd hz hkeylen
    · omega
  | error c =>
    obtain rfl | rfl := validate_error_cases hv
    · exact absurd (validate_eq_unsupported_iff.mp hv) halg
    · rfl

/-- With every check passed, `validate` resolves the algorithm of the code. -/
theorem exists_validate_eq_ok {avail : BitVec 3} {alg digits period keylen : Word32}
    (halg : ¬ (2 < alg.toNat ∨ avail.getLsbD alg.toNat = false))
    (hfield : ¬ (digits.toNat < 6 ∨ 10 < digits.toNat ∨ period = 0 ∨ keylen = 0 ∨ 256 < keylen.toNat)) :
    ∃ a, validate avail alg digits period keylen = .ok a ∧ algCode a = alg.toNat := by
  simp only [not_or, not_lt, Bool.not_eq_false] at halg hfield
  obtain ⟨hcode, hbit⟩ := halg
  obtain ⟨hmin, hmax, hperiod, hkeylen, hkeyMax⟩ := hfield
  obtain ⟨a, ha⟩ := exists_algCode_eq hcode
  have havail : algAvailable avail a = true := by rw [algAvailable, ha, hbit]
  exact ⟨a, validate_eq_ok_iff.mpr ⟨⟨ha, havail⟩, ⟨hmin, hmax⟩, hperiod, hkeylen, hkeyMax⟩, ha⟩

/-! `commit` (R133) and `CLEAR` (R136). -/

/-- `CONFIGURE` commits when no check fails (R131). -/
theorem exec_configure_of_ok {s : State} {a : HashAlg}
    (h : validate s.algAvail s.cfgAlg s.cfgDigits s.cfgPeriod s.cfgKeylen = .ok a) :
    exec .configure s = .next (complete (commit a s)) := by
  simp [exec, execConfigure, h]

theorem exec_clear (s : State) : exec .clear s = .next (complete (hwReset s)) := rfl

/-- A buffer made from the first `n` bytes of another holds them, and zeros after them. -/
theorem bufByte_bufOf_take {m : Nat} (x : Vector Byte m) (n : Nat) {k : Nat} (hk : k < m) :
    bufByte (bufOf m (x.toList.take n)) k = if k < n then bufByte x k else 0 := by
  rw [bufByte_bufOf _ hk]
  split_ifs with hlt
  · simp [bufByte, List.getD_eq_getElem?_getD, hlt]
  · rw [List.getD_eq_default]
    exact (List.length_take_le _ _).trans (not_lt.mp hlt)

/-! The staging registers and the compute commands (R45, R135). -/

/-- What a host stages for `CONFIGURE`: four registers and the `KEY` buffer (R25 to R28, R36). -/
structure Staging where
  digits : Word32
  alg : Word32
  period : Word32
  keylen : Word32
  key : Vector Byte 256

/-- The state with other values staged. -/
def withStaging (g : Staging) (s : State) : State :=
  { s with cfgDigits := g.digits, cfgAlg := g.alg, cfgPeriod := g.period, cfgKeylen := g.keylen, key := g.key }

/-- Every compute command is the frame around an effect that neither reads nor
writes what is staged. -/
theorem exec_compute_eq_frame {i : Instr} (hc : i ≠ .configure) (hl : i ≠ .clear) :
    ∃ f : State → State, (∀ s, exec i s = computeFrame f s) ∧
      ∀ g s, f (withStaging g s) = withStaging g (f s) := by
  cases i with
  | configure => contradiction
  | clear => contradiction
  | hmac => exact ⟨_, exec_hmac, fun _ _ => rfl⟩
  | trunc => exact ⟨_, exec_trunc, fun _ _ => rfl⟩
  | ts2ctr => exact ⟨_, exec_ts2ctr, fun _ _ => rfl⟩
  | cteq => exact ⟨_, exec_cteq, fun _ _ => rfl⟩
  | hotp => exact ⟨_, exec_hotp, fun _ _ => rfl⟩
  | genat => exact ⟨_, exec_genat, fun _ _ => rfl⟩
  | now => exact ⟨_, exec_now, fun _ _ => rfl⟩
  | verifyat => exact ⟨_, exec_verifyat, fun _ _ => rfl⟩
  | verify => exact ⟨_, exec_verify, fun _ _ => rfl⟩

/-- The frame of a compute command takes no notice of what is staged, if its effect
does not: it looks at `A.VALID` and writes `STATUS` (R103). -/
theorem computeFrame_withStaging {f : State → State} {g : Staging} {s t : State}
    (hf : f (withStaging g s) = withStaging g (f s)) (h : computeFrame f s = .next t) :
    computeFrame f (withStaging g s) = .next (withStaging g t) := by
  obtain ⟨hvalid, hx⟩ | ⟨hvalid, hx⟩ := computeFrame_cases f s <;> rw [hx] at h <;> cases h
  · rw [computeFrame_valid (s := withStaging g s) hvalid, hf]
    rfl
  · rw [computeFrame_invalid (s := withStaging g s) hvalid]
    rfl

end Sys2Proof.Machine
end

section
/-! The family 40_config.md: `CONFIGURE`, `CLEAR` and the staging registers. -/

namespace Sys2Proof.Machine

open Sys2Proof.Spec

/-- Settles O20: check 1 decides alone, then the other checks decide together, and
with none failing the code has been resolved. -/
theorem validateChecksInOrder : Obligations.ValidateChecksInOrder := by
  unfold Obligations.ValidateChecksInOrder
  intro avail alg digits period keylen
  refine ⟨validate_eq_unsupported_iff.mpr, fun hcode hbit => validate_eq_invalid ?_,
    fun hcode hbit hmin hmax hperiod hkeylen hkeyMax => exists_validate_eq_ok ?_ ?_⟩
  · simp [hcode, hbit]
  · simp [hcode, hbit]
  · simp only [not_or, not_lt]
    exact ⟨hmin, hmax, hperiod, hkeylen, hkeyMax⟩

/-- Settles O21: `validate` answers with the algorithm, and the configuration
committed from there is the staging registers and the copied secret. -/
theorem configureCommits : Obligations.ConfigureCommits := by
  unfold Obligations.ConfigureCommits
  intro s halg hfield
  obtain ⟨a, hv, ha⟩ := exists_validate_eq_ok halg hfield
  exact ⟨complete (commit a s), exec_configure_of_ok hv, rfl, rfl, ha, rfl, rfl,
    fun k hk => bufByte_bufOf_take s.key s.cfgKeylen.toNat hk, rfl⟩

/-- Settles O22: `CONFIGURE` raises the error of `validate`, and raising it is the
three writes to `STATUS`. -/
theorem configureFailureKeepsEverything : Obligations.ConfigureFailureKeepsEverything := by
  unfold Obligations.ConfigureFailureKeepsEverything
  intro s
  exact ⟨fun halg => exec_configure_of_error (validate_eq_unsupported_iff.mpr halg),
    fun halg hfield => exec_configure_of_error (validate_eq_invalid halg hfield)⟩

/-- Settles O27: a compute command is the frame around its effect, and both take
the staged values along unread. -/
theorem stagingNeverReachesCompute : Obligations.StagingNeverReachesCompute := by
  unfold Obligations.StagingNeverReachesCompute
  intro i s t digits alg period keylen key hc hl h
  obtain ⟨f, hexec, hf⟩ := exec_compute_eq_frame hc hl
  rw [hexec] at h ⊢
  exact computeFrame_withStaging (g := ⟨digits, alg, period, keylen, key⟩) (hf _ s) h

/-- Settles O23: `CLEAR` completes on the reset state, whose `STATUS` then shows
`DONE` alone. -/
theorem clearRestoresResetState : Obligations.ClearRestoresResetState := by
  unfold Obligations.ClearRestoresResetState
  intro s
  have hword : statusWord (complete (hwReset s)) = 0x00000002 :=
    calc statusWord (complete (hwReset s))
      _ = statusWord (complete State.reset) := statusWord_congr rfl rfl
      _ = 0x00000002 := by decide
  exact ⟨complete (hwReset s), exec_clear s, hword, rfl⟩

end Sys2Proof.Machine
end

section
/-! Facts that the family 41_sha.md rests on: the padding and its length field
(R10, R151, R152), and the words of a message schedule (R156, R163, R170). -/

namespace Sys2Proof.Machine

/-! The length field (R10). -/

/-- `BE_(a+b)` is the upper `a` bytes followed by the lower `b` bytes. -/
theorem beBytes_add (a b v : Nat) : beBytes (a + b) v = beBytes a (v >>> (8 * b)) ++ beBytes b v := by
  induction a with
  | zero => simp [beBytes]
  | succ a ih =>
    rw [Nat.succ_add, beBytes, beBytes, ih, ← Nat.shiftRight_add, List.cons_append, Nat.mul_add, Nat.add_comm]

@[simp] theorem beBytes_zero (n : Nat) : beBytes n 0 = zeros n := by
  induction n with
  | zero => rfl
  | succ n ih => simp [beBytes, ih, zeros, List.replicate_succ]

/-- The upper bytes of a number that the lower bytes hold are zero. -/
theorem beBytes_take_eq_zeros (a b : Nat) {v : Nat} (h : v < 2 ^ (8 * b)) : (beBytes (a + b) v).take a = zeros a := by
  rw [beBytes_add, Nat.shiftRight_eq_zero v _ h, List.take_left' (beBytes_length a _), beBytes_zero]

/-! Padding: the number of zeros is the residue that fills the last block (R151, R152). -/

theorem pad64_length (m : List Byte) : (pad64 m).length = m.length + 1 + (119 - m.length % 64) % 64 + 8 := by
  simp [pad64]
  omega

theorem pad128_length (m : List Byte) : (pad128 m).length = m.length + 1 + (239 - m.length % 128) % 128 + 16 := by
  simp [pad128]
  omega

theorem pad64_zeros_fill (n : Nat) : (n + 1 + (119 - n % 64) % 64 + 8) % 64 = 0 := by omega

theorem pad128_zeros_fill (n : Nat) : (n + 1 + (239 - n % 128) % 128 + 16) % 128 = 0 := by omega

/-! Message schedules. -/

/-- The words of the block `m` and `n` more, the first word first: the form of both
`sha1Schedule` and `sha2Schedule`. -/
def scheduleOf {w : Nat} (next : List (BitVec w) → BitVec w) (n : Nat) (m : List (BitVec w)) : List (BitVec w) :=
  (extendSchedule next n m.reverse).reverse

theorem sha1Schedule_eq (m : List Word32) : sha1Schedule m = scheduleOf sha1NextWord 64 m := rfl

theorem sha2Schedule_eq {w : Nat} (p : Sha2Fns w) (m : List (BitVec w)) :
    sha2Schedule p m = scheduleOf (sha2NextWord p) (p.roundK.length - 16) m := rfl

section
variable {w : Nat} (next : List (BitVec w) → BitVec w)

@[simp] theorem scheduleOf_length (n : Nat) (m : List (BitVec w)) :
    (scheduleOf next n m).length = n + m.length := by
  simp [scheduleOf]

theorem scheduleOf_succ (n : Nat) (m : List (BitVec w)) :
    scheduleOf next (n + 1) m = scheduleOf next n m ++ [next (scheduleOf next n m).reverse] := by
  simp [scheduleOf, extendSchedule_succ]

/-- A schedule begins with its block. -/
theorem scheduleOf_take {k : Nat} (n : Nat) {m : List (BitVec w)} (hm : m.length = k) :
    (scheduleOf next n m).take k = m := by
  have hpre : m.reverse.reverse <+: scheduleOf next n m :=
    List.reverse_prefix.mpr (extendSchedule_suffix next n m.reverse)
  rw [List.reverse_reverse, List.prefix_iff_eq_take, hm] at hpre
  exact hpre.symm

/-- A schedule grows at its end only. -/
theorem scheduleOf_prefix_of_le {k n : Nat} (h : k ≤ n) (m : List (BitVec w)) :
    scheduleOf next k m <+: scheduleOf next n m := by
  induction n, h using Nat.le_induction with
  | base => exact List.prefix_rfl
  | succ n _ ih =>
    rw [scheduleOf_succ]
    exact ih.trans (List.prefix_append _ _)

/-- A shorter schedule has the words of a longer one as far as it goes. -/
theorem scheduleOf_getD_of_le {k n i : Nat} {m : List (BitVec w)} (h : k ≤ n) (hi : i < k + m.length) :
    (scheduleOf next n m).getD i 0 = (scheduleOf next k m).getD i 0 := by
  obtain ⟨tail, htail⟩ := scheduleOf_prefix_of_le next h m
  rw [← htail, List.getD_append _ _ _ _ (by simpa using hi)]

end

/-- `back` counts from the end of the words made so far. -/
theorem back_reverse {w : Nat} {ws : List (BitVec w)} {k : Nat} (hk : 0 < k) (hle : k ≤ ws.length) :
    back ws.reverse k = ws.getD (ws.length - k) 0 := by
  rw [back, List.getD_reverse _ (by omega)]
  congr 1
  omega

/-- Each word after the block is made by `next` from a list in which the word `k`
places back is the schedule's word `t - k`. -/
theorem scheduleOf_word {w : Nat} (next : List (BitVec w) → BitVec w) {n t : Nat} {m : List (BitVec w)}
    (hm : m.length ≤ t) (ht : t < n + m.length) :
    ∃ ws, (scheduleOf next n m).getD t 0 = next ws ∧
      ∀ k, 0 < k → k ≤ t → back ws k = (scheduleOf next n m).getD (t - k) 0 := by
  obtain ⟨j, rfl⟩ : ∃ j, t = j + m.length := ⟨t - m.length, by omega⟩
  refine ⟨(scheduleOf next j m).reverse, ?_, fun k hk hkt => ?_⟩
  · rw [scheduleOf_getD_of_le next (show j + 1 ≤ n by omega) (by omega), scheduleOf_succ,
      List.getD_append_right _ _ _ _ (by simp)]
    simp
  · rw [back_reverse hk (by simpa using hkt), scheduleOf_length,
      scheduleOf_getD_of_le next (show j ≤ n by omega) (by omega)]

/-- The recurrence of SHA-1 (R156). -/
theorem sha1Schedule_word {t : Nat} {m : List Word32} (hm : m.length = 16) (h16 : 16 ≤ t) (ht : t < 80) :
    (sha1Schedule m).getD t 0 =
      rotl ((sha1Schedule m).getD (t - 3) 0 ^^^ (sha1Schedule m).getD (t - 8) 0 ^^^
        (sha1Schedule m).getD (t - 14) 0 ^^^ (sha1Schedule m).getD (t - 16) 0) 1 := by
  obtain ⟨ws, hword, hback⟩ := scheduleOf_word sha1NextWord (n := 64) (m := m) (t := t) (by omega) (by omega)
  rw [sha1Schedule_eq, hword, sha1NextWord, hback 3, hback 8, hback 14, hback 16] <;> omega

section
variable {w : Nat} (p : Sha2Fns w) {m : List (BitVec w)}

/-- There are as many words as round constants. -/
theorem sha2Schedule_length (hm : m.length = 16) (hp : 16 ≤ p.roundK.length) :
    (sha2Schedule p m).length = p.roundK.length := by
  rw [sha2Schedule_eq, scheduleOf_length]
  omega

/-- The recurrence that SHA-256 and SHA-512 share (R163, R170). -/
theorem sha2Schedule_word {t : Nat} (hm : m.length = 16) (h16 : 16 ≤ t) (ht : t < p.roundK.length) :
    (sha2Schedule p m).getD t 0 =
      p.ssig1 ((sha2Schedule p m).getD (t - 2) 0) + (sha2Schedule p m).getD (t - 7) 0 +
        p.ssig0 ((sha2Schedule p m).getD (t - 15) 0) + (sha2Schedule p m).getD (t - 16) 0 := by
  obtain ⟨ws, hword, hback⟩ := scheduleOf_word (sha2NextWord p) (n := p.roundK.length - 16) (m := m) (t := t)
    (by omega) (by omega)
  rw [sha2Schedule_eq, hword, sha2NextWord, hback 2, hback 7, hback 15, hback 16] <;> omega

end

end Sys2Proof.Machine
end

section
/-! The family 41_sha.md: the padding (R151, R152) and the message schedules (R156,
R163, R170). -/

namespace Sys2Proof.Machine

/-- Settles O28: the zeros are as many as the residue of the message's length asks
for, and a bit length below `2^64` leaves the upper half of its field zero. -/
theorem paddingFillsBlocks : Obligations.PaddingFillsBlocks := by
  unfold Obligations.PaddingFillsBlocks
  intro m
  have hlen := pad64_length m
  refine ⟨⟨(119 - m.length % 64) % 64, Nat.mod_lt _ (by decide), pad64_zeros_fill _, rfl, ?_, ?_, ?_⟩,
    ⟨(239 - m.length % 128) % 128, Nat.mod_lt _ (by decide), pad128_zeros_fill _, rfl, ?_⟩, fun hm => ?_⟩
  · rw [hlen, pad64_zeros_fill]
  · omega
  · omega
  · rw [pad128_length, pad128_zeros_fill]
  · exact beBytes_take_eq_zeros 8 8 (by omega)

/-- Settles O29: the three schedules are blocks extended by their recurrences, and
`SSIG0` and `SSIG1` are two rotations and a shift each. -/
theorem messageSchedules : Obligations.MessageSchedules := by
  unfold Obligations.MessageSchedules
  refine ⟨fun m hm => ⟨?_, ?_, ?_⟩, fun m hm => ⟨?_, ?_, ?_⟩, fun m hm => ⟨?_, ?_, ?_⟩⟩
  · rw [sha1Schedule_eq, scheduleOf_length, hm]
  · exact scheduleOf_take _ _ hm
  · exact fun t => sha1Schedule_word hm
  · exact sha2Schedule_length sha256Fns hm (by decide)
  · exact scheduleOf_take _ _ hm
  · exact fun t => sha2Schedule_word sha256Fns hm
  · exact sha2Schedule_length sha512Fns hm (by decide)
  · exact scheduleOf_take _ _ hm
  · exact fun t => sha2Schedule_word sha512Fns hm

end Sys2Proof.Machine
end

section
/-! Facts that the family 42_hmac.md rests on: the bytes of `BE_n` (R10), the
prepared key (R191) and the `DIGEST` buffer (R197). -/

namespace Sys2Proof.Machine

/-! The bytes of a number (R10). -/

theorem beBytes_getD {n k : Nat} (v : Nat) (hk : k < n) :
    (beBytes n v).getD k 0 = BitVec.ofNat 8 (v >>> (8 * (n - 1 - k))) := by
  induction n generalizing k with
  | zero => omega
  | succ n ih =>
    cases k with
    | zero => rfl
    | succ k =>
      have hplace : n - 1 - k = n + 1 - 1 - (k + 1) := by omega
      rw [beBytes, List.getD_cons_succ, ih (by omega), hplace]

/-- For `BE_n` of a word, byte `k` is a slice of the word. -/
theorem beBytes_getD_toNat {w n k : Nat} (c : BitVec w) (hk : k < n) :
    (beBytes n c.toNat).getD k 0 = c.extractLsb' (8 * (n - 1 - k)) 8 :=
  beBytes_getD c.toNat hk

/-! Key preparation (R191). -/

theorem zeros_succ (n : Nat) : zeros (n + 1) = 0x00 :: zeros n := rfl

/-- No digest is longer than a block, so a digest taken as a key is not hashed again. -/
theorem digestBytes_le_blockBytes (alg : HashAlg) : digestBytes alg ≤ blockBytes alg := by
  cases alg <;> decide

section
variable {alg : HashAlg} {key key' : List Byte}

theorem hmacKey_of_long (h : blockBytes alg < key.length) :
    hmacKey alg key = hashBytes alg key ++ zeros (blockBytes alg - digestBytes alg) := if_pos h

theorem hmacKey_of_short (h : key.length ≤ blockBytes alg) :
    hmacKey alg key = key ++ zeros (blockBytes alg - key.length) := if_neg h.not_gt

/-- The prepared key is one block. -/
@[simp] theorem hmacKey_length : (hmacKey alg key).length = blockBytes alg := by
  obtain h | h := lt_or_ge (blockBytes alg) key.length
  · simp [hmacKey_of_long h, digestBytes_le_blockBytes]
  · simp [hmacKey_of_short h, h]

/-- A zero byte at the end of a short key is one that the padding would put there. -/
theorem hmacKey_append_zero (h : key.length < blockBytes alg) : hmacKey alg (key ++ [0x00]) = hmacKey alg key := by
  have hpad : blockBytes alg - key.length = blockBytes alg - (key.length + 1) + 1 := by omega
  rw [hmacKey_of_short (by simpa using h), hmacKey_of_short h.le, List.length_append, List.length_singleton, hpad,
    zeros_succ, ← List.append_cons]

/-- A long key is prepared as its hash is. -/
theorem hmacKey_hashBytes (h : blockBytes alg < key.length) : hmacKey alg (hashBytes alg key) = hmacKey alg key := by
  rw [hmacKey_of_long h, hmacKey_of_short (by simp [digestBytes_le_blockBytes]), hashBytes_length]

/-- HMAC reads its key through the preparation only. -/
theorem hmac_congr_hmacKey (h : hmacKey alg key = hmacKey alg key') (msg : List Byte) :
    hmac alg key msg = hmac alg key' msg := by
  rw [hmac, hmac, hmacInner, hmacInner, h]

end

/-! The digest of a counter in the `DIGEST` buffer (R197). -/

/-- `DIGEST` has room for every digest. -/
theorem digestBytes_le (alg : HashAlg) : digestBytes alg ≤ 64 := by cases alg <;> decide

@[simp] theorem digestOfCounter_length (a : ActiveConfig) (c : Nat) :
    (digestOfCounter a c).length = digestBytes a.alg := hmac_length a.alg _ _

/-- `DIGEST` holds the digest of a counter whole, and zeros after it. -/
theorem bufOf_digestOfCounter_toList (a : ActiveConfig) (c : Nat) :
    (bufOf 64 (digestOfCounter a c)).toList = digestOfCounter a c ++ zeros (64 - digestBytes a.alg) := by
  rw [bufOf_toList (by simp [digestBytes_le]), digestOfCounter_length]

end Sys2Proof.Machine
end

section
/-! The family 42_hmac.md: HMAC, the message of a counter and the command `HMAC`. -/

namespace Sys2Proof.Machine

/-- Settles O31: `K0` is the prepared key, one block by either branch, and both
hashes have the output length. -/
theorem hmacFormula : Obligations.HmacFormula := by
  unfold Obligations.HmacFormula
  intro alg key msg
  exact ⟨hmacKey alg key, hmacInner alg key msg, hmacKey_length, hmacKey_of_long, hmacKey_of_short,
    rfl, hashBytes_length alg _, rfl, hmac_length alg key msg⟩

/-- Settles O32: the keys of each pair are prepared alike, and HMAC sees no more of them. -/
theorem hmacKeysThatCoincide : Obligations.HmacKeysThatCoincide := by
  unfold Obligations.HmacKeysThatCoincide
  intro alg key msg
  exact ⟨fun hshort => hmac_congr_hmacKey (hmacKey_append_zero hshort) msg,
    fun hlong => hmac_congr_hmacKey (hmacKey_hashBytes hlong) msg⟩

/-- Settles O33: the message is `BE_8` of a number below `2^64`, so `be` gives that number back. -/
theorem counterMessageBytes : Obligations.CounterMessageBytes := by
  unfold Obligations.CounterMessageBytes
  intro c
  refine ⟨beBytes_length 8 _, ?_, fun k => beBytes_getD_toNat c⟩
  calc be (counterMessage c.toNat)
    _ = c.toNat % 256 ^ 8 := be_beBytes 8 c.toNat
    _ = c.toNat := Nat.mod_eq_of_lt c.isLt

/-- Settles O34: with a configuration the frame runs the command's one write, the
digest of the counter into `DIGEST`, and completes; without one it raises the error. -/
theorem hmacCommandWritesDigest : Obligations.HmacCommandWritesDigest := by
  unfold Obligations.HmacCommandWritesDigest
  intro s
  rw [exec_hmac]
  exact ⟨fun hvalid => ⟨complete (hmacEffect s), computeFrame_valid hvalid,
      bufOf_digestOfCounter_toList s.active s.ctr.toNat, rfl⟩,
    computeFrame_invalid⟩

end Sys2Proof.Machine
end

section
/-! Facts that the family 43_truncation.md rests on: the bytes that dynamic
truncation selects (R210, R211), rendered decimal numbers (R214, R215) and the
`CODE` buffer (R216). -/

namespace Sys2Proof.Machine

/-! The offset and the four bytes from it (R210, R211). -/

theorem truncOffset_eq_mod (h : List Byte) : truncOffset h = (h.getD (h.length - 1) 0).toNat % 16 := by
  rw [truncOffset, BitVec.toNat_and]
  exact Nat.and_two_pow_sub_one_eq_mod _ 4

theorem truncOffset_le (h : List Byte) : truncOffset h ≤ 15 := by
  have := truncOffset_eq_mod h
  omega

/-- A byte appended to a word is its last base-256 digit. -/
theorem toNat_append_byte {n : Nat} (x : BitVec n) (b : Byte) : (x ++ b).toNat = x.toNat * 256 + b.toNat := by
  rw [BitVec.toNat_append, ← Nat.shiftLeft_add_eq_or_of_lt b.isLt, Nat.shiftLeft_eq]

/-- The mask of R211 leaves seven bits of the first byte. -/
theorem toNat_and_0x7F (b : Byte) : (b &&& 0x7F).toNat = b.toNat % 128 := by
  rw [BitVec.toNat_and]
  exact Nat.and_two_pow_sub_one_eq_mod _ 7

theorem truncBinary_toNat (h : List Byte) :
    (truncBinary h).toNat =
      (h.getD (truncOffset h) 0).toNat % 128 * 2 ^ 24 + (h.getD (truncOffset h + 1) 0).toNat * 2 ^ 16 +
        (h.getD (truncOffset h + 2) 0).toNat * 2 ^ 8 + (h.getD (truncOffset h + 3) 0).toNat := by
  rw [truncBinary, BitVec.setWidth_eq, toNat_append_byte, toNat_append_byte, toNat_append_byte, toNat_and_0x7F]
  omega

/-- The first byte of a piece of a byte string. -/
theorem take_succ_drop {h : List Byte} {o : Nat} (ho : o < h.length) (n : Nat) :
    (h.drop o).take (n + 1) = h.getD o 0 :: (h.drop (o + 1)).take n := by
  rw [List.drop_eq_getElem_cons ho, List.take_succ_cons, List.getD_eq_getElem _ _ ho]

theorem be_take_four {h : List Byte} {o : Nat} (ho : o + 3 < h.length) :
    be ((h.drop o).take 4) =
      (h.getD o 0).toNat * 2 ^ 24 + (h.getD (o + 1) 0).toNat * 2 ^ 16 +
        (h.getD (o + 2) 0).toNat * 2 ^ 8 + (h.getD (o + 3) 0).toNat := by
  have hbytes : (h.drop o).take 4 = [h.getD o 0, h.getD (o + 1) 0, h.getD (o + 2) 0, h.getD (o + 3) 0] := by
    rw [take_succ_drop (by omega), take_succ_drop (by omega), take_succ_drop (by omega), take_succ_drop ho,
      List.take_zero]
  rw [hbytes, be_cons, be_cons, be_cons, be_singleton]
  simp only [List.length_cons, List.length_nil]
  omega

/-- `binary(h)` is the big-endian number of the four bytes without its top bit (R211). -/
theorem truncBinary_eq_be_mod {h : List Byte} (ho : truncOffset h + 3 < h.length) :
    (truncBinary h).toNat = be ((h.drop (truncOffset h)).take 4) % 2 ^ 31 := by
  have hlt := truncBinary_toNat_lt h
  rw [be_take_four ho]
  rw [truncBinary_toNat] at hlt ⊢
  omega

/-! Rendering and the exact remainder (R213, R214, R215). -/

/-- Read as a decimal number in ASCII, the most significant digit first (R107). -/
def decimalValue (s : List Byte) : Nat := s.foldl (fun acc b => acc * 10 + (b.toNat - 0x30)) 0

theorem decimalValue_append_singleton (s : List Byte) (b : Byte) :
    decimalValue (s ++ [b]) = decimalValue s * 10 + (b.toNat - 0x30) := by
  simp [decimalValue]

/-- The character of a digit. -/
theorem digitByte_toNat (n : Nat) : (0x30 + BitVec.ofNat 8 (n % 10) : Byte).toNat = 0x30 + n % 10 := by
  rw [BitVec.toNat_add, BitVec.toNat_ofNat, show (0x30 : Byte).toNat = 48 from rfl]
  omega

/-- The last of the digits is the unit's, and those before it render the tenth. -/
theorem render_succ (v d : Nat) : render v (d + 1) = render (v / 10) d ++ [0x30 + BitVec.ofNat 8 (v % 10)] := by
  have hplace : ∀ k ∈ List.range d, v / 10 ^ (d + 1 - 1 - k) = v / 10 / 10 ^ (d - 1 - k) := by
    intro k hk
    have hexp : d + 1 - 1 - k = d - 1 - k + 1 := by have := List.mem_range.mp hk; omega
    rw [hexp, pow_succ', Nat.div_div_eq_div_mul]
  rw [render, render, List.range_succ, List.map_append]
  congr 1
  · exact List.map_congr_left fun k hk => by rw [hplace k hk]
  · simp

/-- `d` digits show a number modulo `10^d`. -/
theorem decimalValue_render (v d : Nat) : decimalValue (render v d) = v % 10 ^ d := by
  induction d generalizing v with
  | zero => simp [render, decimalValue, Nat.mod_one]
  | succ d ih =>
    rw [render_succ, decimalValue_append_singleton, ih, digitByte_toNat, pow_succ', Nat.mod_mul]
    omega

/-- `binary` has at most ten digits, so the remainder modulo `10^10` is `binary` itself (R213). -/
theorem truncOtp_truncBinary_ten (h : List Byte) : truncOtp (truncBinary h) 10 = (truncBinary h).toNat :=
  Nat.mod_eq_of_lt ((truncBinary_toNat_lt h).trans (by decide))

/-! A truncation in the `CODE` buffer (R216). -/

/-- `CODE` holds the digits of a truncation whole, and zeros after them. -/
theorem bufOf_truncate_toList (h : List Byte) {d : Nat} (hd : d ≤ 16) :
    (bufOf 16 (truncate h d)).toList = truncate h d ++ zeros (16 - d) := by
  rw [bufOf_toList (by simpa using hd), truncate_length]

/-- `CODE` has room for the digits of a legal configuration (R43). -/
theorem digits_le_of_activeOk {avail : BitVec 3} {a : ActiveConfig} (h : ActiveOk avail a) (hvalid : a.valid = true) :
    a.digits.toNat ≤ 16 := by
  obtain ⟨hlegal, -, -⟩ := h
  obtain ⟨⟨-, hmax⟩, -⟩ := hlegal hvalid
  omega

end Sys2Proof.Machine
end

section
/-! The family 43_truncation.md: dynamic truncation, rendering and the command `TRUNC`. -/

namespace Sys2Proof.Machine

/-- Settles O35: the offset is at most 15, so the four bytes from it lie within
the 20 bytes of the shortest digest. -/
theorem truncationExtractsFourBytes : Obligations.TruncationExtractsFourBytes := by
  unfold Obligations.TruncationExtractsFourBytes
  intro h hlen
  have hle := truncOffset_le h
  have hinside : truncOffset h + 3 < h.length := by omega
  exact ⟨truncOffset h, hle, truncOffset_eq_mod h, by omega, hinside, truncBinary_toNat h,
    truncBinary_eq_be_mod hinside, truncBinary_toNat_lt h⟩

/-- Settles O36: each character is the digit of its place, and the characters
together show the number modulo `10^d`, which below `10^d` is the number. -/
theorem reductionAndRendering : Obligations.ReductionAndRendering := by
  unfold Obligations.ReductionAndRendering
  refine ⟨fun v d hv => ⟨render_length v d, fun k hk => ⟨?_, render_getD_digit hk⟩, ?_⟩,
    fun h d => ⟨rfl, ?_⟩⟩
  · rw [render_getD hk, digitByte_toNat]
  · exact (decimalValue_render v d).trans (Nat.mod_eq_of_lt hv)
  · rw [truncate, truncOtp_truncBinary_ten]

/-- Settles O37: with a configuration the frame runs the command's two writes,
`BINARY` and `CODE`, and completes; without one it raises the error. -/
theorem truncCommandWritesCode : Obligations.TruncCommandWritesCode := by
  unfold Obligations.TruncCommandWritesCode
  intro s hok
  rw [exec_trunc]
  exact ⟨fun hvalid => ⟨complete (truncEffect s), computeFrame_valid hvalid, truncEffect_binary s,
      bufOf_truncate_toList (digestOperand s) (digits_le_of_activeOk hok hvalid), rfl⟩,
    computeFrame_invalid⟩

end Sys2Proof.Machine
end

section
/-! Facts that the family 44_hotp.md rests on: the digest that `HMAC` leaves is the
operand of `TRUNC` (R106), so the one after the other write what `HOTP` writes (R231). -/

namespace Sys2Proof.Machine

/-- The digest operand is the digest of a counter, where `DIGEST` was written with it. -/
theorem digestOperand_of_digest_eq {s : State} {c : Nat} (h : s.digest = bufOf 64 (digestOfCounter s.active c)) :
    digestOperand s = digestOfCounter s.active c := by
  rw [digestOperand, h, bufOf_digestOfCounter_toList, List.take_left' (digestOfCounter_length _ _)]

/-- The effect of `HOTP` is that of `HMAC` followed by `TRUNC`. -/
theorem complete_truncEffect_complete_hmacEffect (s : State) :
    complete (truncEffect (complete (hmacEffect s))) = complete (codeEffect s.ctr s) := by
  have hoperand : digestOperand (complete (hmacEffect s)) = digestOfCounter s.active s.ctr.toNat :=
    digestOperand_of_digest_eq (s := complete (hmacEffect s)) rfl
  rw [truncEffect, hoperand]
  rfl

end Sys2Proof.Machine
end

section
/-! The family 44_hotp.md: the command `HOTP`. -/

namespace Sys2Proof.Machine

/-- Settles O38: with a configuration the frame runs the command's three writes,
`DIGEST`, `BINARY` and `CODE`, and completes, as `HMAC` and `TRUNC` do in turn;
without one it raises the error. -/
theorem hotpCommandWritesCode : Obligations.HotpCommandWritesCode := by
  unfold Obligations.HotpCommandWritesCode
  intro s hok
  rw [exec_hotp]
  refine ⟨fun hvalid => ?_, computeFrame_invalid⟩
  have htrunc : exec .trunc (complete (hmacEffect s)) = .next (complete (codeEffect s.ctr s)) := by
    rw [exec_trunc, computeFrame_valid (s := complete (hmacEffect s)) hvalid,
      complete_truncEffect_complete_hmacEffect]
  exact ⟨complete (codeEffect s.ctr s), digestOfCounter s.active s.ctr.toNat, computeFrame_valid hvalid, rfl,
    bufOf_digestOfCounter_toList s.active s.ctr.toNat, codeEffect_binary s s.ctr,
    bufOf_truncate_toList _ (digits_le_of_activeOk hok hvalid), rfl,
    complete (hmacEffect s), (exec_hmac s).trans (computeFrame_valid hvalid), htrunc⟩

end Sys2Proof.Machine
end

section
/-! Facts that the family 45_counter.md rests on: the counter word that `TS2CTR`
writes (R240), the counters of the window timestamps (R244, R245), the comparator
as an equality (R250) and the window loop as a search over offsets (R264). -/

namespace Sys2Proof.Machine

/-! The counter word (R240, R242). -/

/-- The quotient of a 64-bit timestamp fits `CTR`, so nothing is lost. -/
@[simp] theorem counterWord_toNat (t : Word64) (a : ActiveConfig) :
    (counterWord t a).toNat = t.toNat / a.period.toNat := by
  rw [counterWord, BitVec.toNat_ofNat, counterAt]
  exact Nat.mod_eq_of_lt ((Nat.div_le_self _ _).trans_lt t.isLt)

/-! The counters of the window timestamps (R244, R245). -/

/-- A window timestamp lies as far into its period as the timestamp does. -/
theorem windowTime_eq_counter_mul_add (t : Nat) (i : Int) (p : Nat) :
    windowTime t i p = ((counterAt t p : Int) + i) * p + (t % p : Nat) := by
  have hsplit : ((t / p : Nat) : Int) * p + (t % p : Nat) = t := by
    exact_mod_cast Nat.div_add_mod' t p
  rw [windowTime, counterAt]
  linear_combination -hsplit

section
variable {t p : Nat} {i : Int}

theorem windowTime_ediv (hp : 0 < p) : windowTime t i p / p = (counterAt t p : Int) + i := by
  rw [windowTime, Int.add_mul_ediv_right _ _ (by omega), counterAt, Int.natCast_ediv]

theorem windowTime_nonneg_iff (hp : 0 < p) : 0 ≤ windowTime t i p ↔ 0 ≤ (counterAt t p : Int) + i := by
  rw [← windowTime_ediv hp, Int.ediv_nonneg_iff_of_pos (by omega)]

/-- The counter of a window timestamp that is not negative (R245). -/
theorem counterAt_windowTime (hp : 0 < p) (h : 0 ≤ windowTime t i p) :
    (counterAt (windowTime t i p).toNat p : Int) = (counterAt t p : Int) + i := by
  rw [counterAt, Int.natCast_ediv, Int.toNat_of_nonneg h, windowTime_ediv hp]

/-- The window timestamp whose counter is `c` is in range when it does not pass 2^64 - 1. -/
theorem inRange_windowTime_iff {c : Nat} (hc : (c : Int) = (counterAt t p : Int) + i) :
    inRange (windowTime t i p) = true ↔ c * p + t % p < 2 ^ 64 := by
  have htime : windowTime t i p = ((c * p + t % p : Nat) : Int) := by
    rw [windowTime_eq_counter_mul_add, ← hc]
    push_cast
    rfl
  rw [inRange_iff, htime, maxTime]
  omega

end

/-! The comparator as an equality (R250). -/

/-- The comparator accepts exactly when the first `n` bytes agree one by one. -/
theorem ctEq_iff_getD (a b : List Byte) (n : Nat) :
    ctEq a b n = true ↔ ∀ k < n, a.getD k 0 = b.getD k 0 := by
  rw [ctEq, beq_iff_eq]
  induction n with
  | zero => simp [compareBytes]
  | succ n ih => rw [compareBytes_acc_succ, ih, Nat.forall_lt_succ_right]

/-- On strings of the compared length the comparator is equality. -/
theorem ctEq_iff_eq {a b : List Byte} {n : Nat} (ha : a.length = n) (hb : b.length = n) :
    ctEq a b n = true ↔ a = b := by
  rw [ctEq_iff_getD]
  refine ⟨fun h => List.ext_getElem (ha.trans hb.symm) fun k hka hkb => ?_, fun h k _ => by rw [h]⟩
  rw [← List.getD_eq_getElem a 0 hka, ← List.getD_eq_getElem b 0 hkb]
  exact h k (ha ▸ hka)

/-! The window loop (R264). -/

/-- The `2w + 1` turns of the window loop are the offsets from `-w` to `w`. -/
theorem anyOffset_window_iff (hit : Int → Bool) (w : Nat) :
    anyOffset hit w (2 * w + 1) = true ↔ ∃ i : Int, -(w : Int) ≤ i ∧ i ≤ w ∧ hit i = true := by
  rw [anyOffset_iff]
  constructor
  · rintro ⟨k, hk, h⟩
    exact ⟨(k : Int) - w, by omega, by omega, h⟩
  · rintro ⟨i, hlow, hhigh, h⟩
    have hk : ((i + w).toNat : Int) - w = i := by omega
    exact ⟨(i + w).toNat, by omega, by rwa [hk]⟩

theorem verifyAt_iff (a : ActiveConfig) (cand : List Byte) (candLen window : Word32) (t : Nat) :
    verifyAt a cand candLen window t = true ↔ candLen = a.digits ∧
      ∃ i : Int, -(window.toNat : Int) ≤ i ∧ i ≤ window.toNat ∧ offsetMatches a cand t i = true := by
  rw [verifyAt, Bool.and_eq_true, shapeOk, beq_iff_eq, anyOffset_window_iff]

@[simp] theorem generateAt_length (a : ActiveConfig) (t : Nat) : (generateAt a t).length = a.digits.toNat :=
  computeCode_length ..

section
variable {a : ActiveConfig} {cand : List Byte} {t : Nat} {i : Int}

/-- An offset matches exactly when its timestamp is in range and has the candidate for its code. -/
theorem offsetMatches_iff (hlen : cand.length = a.digits.toNat) :
    offsetMatches a cand t i = true ↔ inRange (windowTime t i a.period.toNat) = true ∧
      generateAt a (windowTime t i a.period.toNat).toNat = cand := by
  rw [offsetMatches, Bool.and_eq_true, ctEq_iff_eq (generateAt_length ..) hlen]

/-- The offset that leads to the counter `c` matches exactly when the timestamp of
`c` in the window is in range and the candidate is the code of `c`. -/
theorem offsetMatches_iff_of_counter (hp : 0 < a.period.toNat) (hlen : cand.length = a.digits.toNat) {c : Nat}
    (hc : (c : Int) = (counterAt t a.period.toNat : Int) + i) :
    offsetMatches a cand t i = true ↔ c * a.period.toNat + t % a.period.toNat < 2 ^ 64 ∧
      computeCode (secretOf a) c a.digits.toNat a.alg = cand := by
  have hcounter : counterAt (windowTime t i a.period.toNat).toNat a.period.toNat = c := by
    have hnonneg := (windowTime_nonneg_iff hp).mpr (hc ▸ Int.natCast_nonneg c)
    exact_mod_cast (counterAt_windowTime hp hnonneg).trans hc.symm
  rw [offsetMatches_iff hlen, inRange_windowTime_iff hc, generateAt, hcounter]

/-- An offset that matches leads to a counter that is not negative. -/
theorem counter_nonneg_of_offsetMatches (hp : 0 < a.period.toNat) (h : offsetMatches a cand t i = true) :
    0 ≤ (counterAt t a.period.toNat : Int) + i := by
  rw [offsetMatches, Bool.and_eq_true, inRange_iff] at h
  obtain ⟨⟨hnonneg, -⟩, -⟩ := h
  exact (windowTime_nonneg_iff hp).mp hnonneg

end

end Sys2Proof.Machine
end

section
/-! The family 45_counter.md: the command `TS2CTR`, the counters of a window, and
verification by counters. -/

namespace Sys2Proof.Machine

/-- Settles O39: `CTR` holds the quotient of the timestamp by the period, and a
quotient by a nonzero divisor is `c` exactly on the interval of R241. -/
theorem counterBoundaries : Obligations.CounterBoundaries := by
  unfold Obligations.CounterBoundaries
  intro s c hvalid hperiod
  refine ⟨complete (counterEffect s.ts s), (exec_ts2ctr s).trans (computeFrame_valid hvalid), ?_⟩
  rw [complete_ctr, counterEffect_ctr, counterWord_toNat]
  exact Nat.div_eq_iff (BitVec.toNat_pos_of_ne_zero hperiod)

/-- Settles O40: the floor quotient of a window timestamp is the counter plus the
offset, and the timestamp has the sign of that quotient. -/
theorem windowCountersAreConsecutive : Obligations.WindowCountersAreConsecutive := by
  unfold Obligations.WindowCountersAreConsecutive
  intro t p i hp
  refine ⟨?_, counterAt_windowTime hp, inRange_iff _, fun ht => ?_⟩
  · simpa only [not_le] using not_congr (windowTime_nonneg_iff hp)
  · rw [inRange_iff, windowTime, maxTime]
    omega

/-- Settles O41: with a configuration the frame runs the command's two writes,
`TUSED` and `CTR`, and completes; without one it raises the error. -/
theorem ts2ctrCommandWritesCounter : Obligations.Ts2ctrCommandWritesCounter := by
  unfold Obligations.Ts2ctrCommandWritesCounter
  intro s _
  rw [exec_ts2ctr]
  exact ⟨fun hvalid => ⟨complete (counterEffect s.ts s), computeFrame_valid hvalid, rfl,
      counterWord_toNat s.ts s.active, rfl⟩,
    computeFrame_invalid⟩

/-- Settles O50: offsets and counters correspond by `c = counter(T, P) + i`, an
offset below counter 0 never matches, and the others match as their counters do. -/
theorem verifyAcceptsWindowCounters : Obligations.VerifyAcceptsWindowCounters := by
  unfold Obligations.VerifyAcceptsWindowCounters
  intro a cand candLen window t hperiod hlen
  have hp : 0 < a.period.toNat := BitVec.toNat_pos_of_ne_zero hperiod
  rw [verifyAt_iff, ← counterAt]
  refine and_congr_right fun _ => ⟨?_, ?_⟩
  · rintro ⟨i, hlow, hhigh, hmatch⟩
    obtain ⟨c, hc⟩ := Int.eq_ofNat_of_zero_le (counter_nonneg_of_offsetMatches hp hmatch)
    exact ⟨c, by omega, by omega, (offsetMatches_iff_of_counter hp hlen hc.symm).mp hmatch⟩
  · rintro ⟨c, hlow, hhigh, hcode⟩
    have hc : (c : Int) = (counterAt t.toNat a.period.toNat : Int) + (c - counterAt t.toNat a.period.toNat) := by omega
    exact ⟨_, by omega, by omega, (offsetMatches_iff_of_counter hp hlen hc).mpr hcode⟩

end Sys2Proof.Machine
end

section
/-! Facts that the family 46_compare.md rests on: the comparator's accumulator as a
fold over the byte pairs (R250), and the result of `CTEQ` said of the bytes of the
two buffers (R252, R253). -/

namespace Sys2Proof.Machine

/-- The accumulator is the fold of the byte differences, from the first pair to the last. -/
theorem compareBytes_acc_eq_foldl (a b : List Byte) (n : Nat) :
    (compareBytes a b n).acc =
      (List.range n).foldl (fun acc k => acc ||| (a.getD k 0 ^^^ b.getD k 0)) 0 := by
  induction n with
  | zero => rfl
  | succ n ih => rw [List.range_succ, List.foldl_append, ← ih]; rfl

/-- Among its first `n` bytes, an operand cut from a buffer has the buffer's bytes. -/
theorem getD_take_eq_bufByte {m : Nat} (x : Vector Byte m) {n k : Nat} (hk : k < n) :
    (x.toList.take n).getD k 0 = bufByte x k := by
  rw [bufByte, List.getD_eq_getElem?_getD, List.getElem?_take_of_lt hk, ← List.getD_eq_getElem?_getD]

/-- `CTEQ` finds a match exactly when the full lengths are equal and so are the
first `A.DIGITS` bytes of `CAND` and `CODE`. -/
theorem cteqResult_iff (s : State) :
    cteqResult s = true ↔ s.candLen = s.active.digits ∧
      ∀ k < s.active.digits.toNat, bufByte s.cand k = bufByte s.code k := by
  rw [cteqResult, Bool.and_eq_true, shapeOk, beq_iff_eq, ctEq_iff_getD]
  refine and_congr_right fun _ => forall₂_congr fun k hk => ?_
  rw [candOperand, codeOperand, getD_take_eq_bufByte _ hk, getD_take_eq_bufByte _ hk]

end Sys2Proof.Machine
end

section
/-! The family 46_compare.md: the comparator and the command `CTEQ`. -/

namespace Sys2Proof.Machine

/-- Settles O42: the accumulator is the fold, and it stays 0 exactly as long as
every pair of bytes is equal. -/
theorem ctEqIsEquality : Obligations.CtEqIsEquality := by
  unfold Obligations.CtEqIsEquality
  intro a b n
  refine ⟨?_, ctEq_iff_getD a b n, ctEq_iff_eq⟩
  rw [ctEq, beq_iff_eq, compareBytes_acc_eq_foldl]

/-- Settles O44: with a configuration the frame writes the comparison's result to
`MATCH` and completes; without one it raises the error. -/
theorem cteqCommandCompares : Obligations.CteqCommandCompares := by
  unfold Obligations.CteqCommandCompares
  intro s _
  rw [exec_cteq]
  exact ⟨fun hvalid => ⟨complete (setMatched (cteqResult s) s), computeFrame_valid hvalid,
      cteqResult_iff s, rfl⟩,
    computeFrame_invalid⟩

end Sys2Proof.Machine
end

section
/-! Facts that the families 47_totp.md, 60_exceptions.md and 70_reset_and_hazards.md
rest on: the code and the digest that a generating command leaves (R260, R261), the
window check said of timestamps (R264), what a verification shows (R269), and how
the engine step and each turn of the environment end (R103, R347). -/

namespace Sys2Proof.Machine

open Sys2Proof.Spec

/-! The four TOTP commands, each the frame around one effect for its own timestamp
(R261, R263, R265, R266). -/

/-- The frame runs its effect on one state only. -/
theorem computeFrame_congr {f g : State → State} {s : State} (h : f s = g s) :
    computeFrame f s = computeFrame g s := by
  rw [computeFrame, computeFrame, h]

theorem exec_genat_eq_frame (s : State) : exec .genat s = computeFrame (generateEffect s.ts) s :=
  (exec_genat s).trans (computeFrame_congr rfl)

theorem exec_now_eq_frame (s : State) : exec .now s = computeFrame (generateEffect s.tSample) s :=
  (exec_now s).trans (computeFrame_congr rfl)

theorem exec_verifyat_eq_frame (s : State) : exec .verifyat s = computeFrame (verifyEffect s.ts) s :=
  (exec_verifyat s).trans (computeFrame_congr rfl)

theorem exec_verify_eq_frame (s : State) : exec .verify s = computeFrame (verifyEffect s.tSample) s :=
  (exec_verify s).trans (computeFrame_congr rfl)

/-! The results of `GENAT` and `NOW`. -/

/-- The code of a timestamp is the truncated digest of the counter that `CTR` then holds (R260). -/
theorem generateAt_eq_truncate (a : ActiveConfig) (t : Word64) :
    generateAt a t.toNat = truncate (digestOfCounter a (counterWord t a).toNat) a.digits.toNat := by
  rw [counterWord_toNat]
  rfl

theorem generateEffect_digest_toList (t : Word64) (s : State) :
    (generateEffect t s).digest.toList =
      digestOfCounter s.active (counterWord t s.active).toNat ++ zeros (64 - digestBytes s.active.alg) :=
  bufOf_digestOfCounter_toList s.active _

/-- `CODE` holds the code of the timestamp whole, and zeros after it. -/
theorem generateEffect_code_toList {s : State} (t : Word64) (hd : s.active.digits.toNat ≤ 16) :
    (generateEffect t s).code.toList = generateAt s.active t.toNat ++ zeros (16 - s.active.digits.toNat) := by
  rw [generateEffect_code, bufOf_truncate_toList _ hd, generateAt_eq_truncate]

/-- The effect of `GENAT` is that of `TS2CTR` followed by `HOTP`. -/
theorem complete_codeEffect_complete_counterEffect (t : Word64) (s : State) :
    complete (codeEffect (complete (counterEffect t s)).ctr (complete (counterEffect t s))) =
      complete (generateEffect t s) := by
  rw [complete_ctr, counterEffect_ctr, generateEffect, codeEffect, codeEffect, complete_active, counterEffect_active]
  rfl

/-! The window check (R264). -/

/-- `CAND` is long enough for a whole candidate of a legal configuration. -/
theorem candOperand_length {s : State} (hd : s.active.digits.toNat ≤ 16) :
    (candOperand s).length = s.active.digits.toNat := by
  simpa [candOperand] using hd

/-- A code copied from `CODE` to `CAND` is the candidate operand whole. -/
theorem candOperand_of_cand_eq_code {s g : State} {t : Word64} (hd : s.active.digits.toNat ≤ 16)
    (hactive : g.active = s.active) (hcand : g.cand = (generateEffect t s).code) :
    candOperand g = generateAt s.active t.toNat := by
  rw [candOperand, hactive, hcand, generateEffect_code_toList t hd, List.take_left' (generateAt_length _ _)]

/-- The window check on the registers of a state finds what R264 says. -/
theorem verifyAt_iff_windowHit {s : State} (t : Word64) (hd : s.active.digits.toNat ≤ 16) :
    verifyAt s.active (candOperand s) s.candLen s.window t.toNat = true ↔
      s.candLen = s.active.digits ∧ ∃ i : Int, windowHit s t i := by
  rw [verifyAt_iff]
  refine and_congr_right fun _ => exists_congr fun i => and_congr_right fun _ => and_congr_right fun _ => ?_
  rw [offsetMatches_iff (candOperand_length hd), inRange_iff, and_assoc]
  rfl

/-- The shape check comes first: a candidate of another length never matches (R267). -/
theorem verifyAt_of_length_ne {a : ActiveConfig} {candLen : Word32} (h : candLen ≠ a.digits) (cand : List Byte)
    (window : Word32) (t : Nat) : verifyAt a cand candLen window t = false := by
  rw [← Bool.not_eq_true, verifyAt_iff]
  exact fun hmatch => h hmatch.1

/-- The code of a timestamp that lies a whole number of periods from `t`, no further
than the window, is accepted at `t`. -/
theorem verifyAt_generateAt {a : ActiveConfig} {window : Word32} {t t' : Word64} {i : Int}
    (hlow : -(window.toNat : Int) ≤ i) (hhigh : i ≤ window.toNat)
    (ht : (t'.toNat : Int) = windowTime t.toNat i a.period.toNat) :
    verifyAt a (generateAt a t'.toNat) a.digits window t.toNat = true := by
  refine (verifyAt_iff ..).mpr ⟨rfl, i, hlow, hhigh, (offsetMatches_iff (generateAt_length _ _)).mpr ?_⟩
  have hlt := t'.isLt
  rw [← ht, inRange_iff, maxTime, Int.toNat_natCast]
  exact ⟨by omega, rfl⟩

/-- `VERIFYAT` accepts the code that `GENAT` left for `t'`, copied to `CAND` in a state
that has its length in `CAND_LEN`. -/
theorem verifyat_accepts_generated {s g : State} {t' : Word64} {i : Int} (hok : ActiveOk s.algAvail s.active)
    (hvalid : s.active.valid = true) (hactive : g.active = s.active) (hcand : g.cand = (generateEffect t' s).code)
    (hlen : g.candLen = s.active.digits) (hlow : -(g.window.toNat : Int) ≤ i) (hhigh : i ≤ g.window.toNat)
    (ht : (t'.toNat : Int) = windowTime g.ts.toNat i s.active.period.toNat) :
    exec .verifyat g = .next (complete (setMatched true (setTused g.ts g))) := by
  have hmatch : verifyAt g.active (candOperand g) g.candLen g.window g.ts.toNat = true := by
    rw [candOperand_of_cand_eq_code (digits_le_of_activeOk hok hvalid) hactive hcand, hlen, hactive]
    exact verifyAt_generateAt hlow hhigh ht
  rw [exec_verifyat_eq_frame, computeFrame_valid (hactive ▸ hvalid), verifyEffect, hmatch]

/-! What a verification shows (R269). -/

/-- Of two states that differ in the staging secret and in the active configuration,
but for its existence, a verification makes two that differ there and in `MATCH` only. -/
theorem verifyFrame_differs_in_match (time : Word64) (s : State) (key : Vector Byte 256) (a : ActiveConfig)
    (hvalid : a.valid = s.active.valid) :
    ∃ t t', computeFrame (verifyEffect time) s = .next t ∧
      computeFrame (verifyEffect time) { s with key := key, active := a } = .next t' ∧
      t'.active.valid = t.active.valid ∧
      (t.status.matched = t'.status.matched → t' = { t with key := key, active := a }) := by
  cases hv : s.active.valid with
  | false =>
    exact ⟨_, _, computeFrame_invalid hv,
      computeFrame_invalid (s := { s with key := key, active := a }) (hvalid.trans hv), hvalid, fun _ => rfl⟩
  | true =>
    refine ⟨_, _, computeFrame_valid hv,
      computeFrame_valid (s := { s with key := key, active := a }) (hvalid.trans hv), hvalid, fun hmatch => ?_⟩
    exact congrArg (fun b => complete (setMatched b (setTused time { s with key := key, active := a }))) hmatch.symm

/-! The end of the engine step (R103). -/

/-- Every command ends, clears `BUSY` and leaves the environment. -/
theorem exec_ends (i : Instr) (s : State) :
    ∃ t, exec i s = .next t ∧ t.status.busy = false ∧ t.env = s.env := by
  obtain ⟨-, he⟩ | ⟨-, he⟩ | ⟨-, -, f, he, hkeep, -⟩ := exec_cases s i
  · obtain ⟨c, -, hx⟩ | ⟨a, -, hx⟩ := execConfigure_cases s
    · exact ⟨_, he.trans hx, rfl, rfl⟩
    · exact ⟨_, he.trans hx, rfl, rfl⟩
  · exact ⟨_, he, rfl, rfl⟩
  · obtain ⟨-, hx⟩ | ⟨-, hx⟩ := computeFrame_cases f s
    · obtain ⟨-, -, henv⟩ := hkeep s
      exact ⟨_, he.trans hx, rfl, henv⟩
    · exact ⟨_, he.trans hx, rfl, rfl⟩

theorem engineStep_ends (u : State) :
    ∃ t, engineStep u = .next t ∧ t.status.busy = false ∧ t.env = u.env := by
  by_cases h : ∃ i, decode u.cmdLatch = .ok i
  · obtain ⟨i, hi⟩ := h
    rw [engineStep_of_decode hi]
    exact exec_ends i u
  · exact ⟨_, engineStep_of_illegal h, rfl, rfl⟩

/-! The script (R347). -/

theorem busStep_script (op : BusOp) (time : Word64) (s : State) : (busStep op time s).env.script = s.env.script := by
  cases op with
  | read off => rfl
  | write off data =>
    have henv : (busStep (.write off data) time s).env.script = (regWrite off data time s).1.env.script := rfl
    rw [henv, regWrite_env]

/-- A machine with no command in progress and nothing left to do rests. -/
theorem step_of_final {s : State} (hbusy : s.status.busy = false) (hscript : s.env.script = []) :
    step s = .next s :=
  step_settled (by simp [nextTurn, engineTurn, hbusy, hscript])

/-- Every step ends, and takes one turn off the script where there is one. -/
theorem step_takes_turn (s : State) : ∃ t, step s = .next t ∧ t.env.script = s.env.script.tail := by
  obtain ⟨-, hs, ht⟩ | ⟨-, hs, ht⟩ | ⟨rest, -, hs, ht⟩ | ⟨rest, -, hs, ht⟩ | ⟨op, time, rest, hs, ht⟩ |
    ⟨rest, hs, ht⟩ := nextTurn_cases s
  · obtain ⟨t, he, -, henv⟩ := engineStep_ends s
    exact ⟨t, (step_engine ht).trans he, by rw [henv, hs, List.tail_nil]⟩
  · exact ⟨s, step_settled ht, by rw [hs, List.tail_nil]⟩
  · obtain ⟨t, he, -, henv⟩ := engineStep_ends (withScript rest s)
    exact ⟨t, (step_engine ht).trans he, by rw [henv, hs, withScript_env, List.tail_cons]⟩
  · exact ⟨_, step_settled ht, by rw [hs, withScript_env, List.tail_cons]⟩
  · exact ⟨_, step_settled ht, by rw [busStep_script, hs, withScript_env, List.tail_cons]⟩
  · exact ⟨_, step_settled ht, by rw [hs, hwReset_env, withScript_env, List.tail_cons]⟩

/-- With the script played out one step ends any command in progress. -/
theorem step_of_script_nil {s : State} (hs : s.env.script = []) :
    ∃ t, step s = .next t ∧ t.status.busy = false ∧ t.env.script = [] := by
  cases hbusy : s.status.busy with
  | false => exact ⟨s, step_of_final hbusy hs, hbusy, hs⟩
  | true =>
    obtain ⟨t, he, hdone, henv⟩ := engineStep_ends s
    have hturn : nextTurn s = .engine s := (engineTurnExactlyWhenBusy s s).mpr ⟨hbusy, .inl ⟨hs, rfl⟩⟩
    exact ⟨t, (step_engine hturn).trans he, hdone, by rw [henv, hs]⟩

theorem run_succ_of_step {s t : State} (h : step s = .next t) (k : Nat) :
    Sys2Proof.core.run (k + 1) s = Sys2Proof.core.run k t := by
  have hcore : Sys2Proof.core.step s = .next t := h
  simp only [Host.Core.run, hcore]

/-- One step for each turn of the script and one more end every run. -/
theorem run_ends (script : List Event) (s : State) (hs : s.env.script = script) :
    ∃ t, Sys2Proof.core.run (script.length + 1) s = .next t ∧ t.status.busy = false ∧ t.env.script = [] := by
  induction script generalizing s with
  | nil =>
    obtain ⟨t, hstep, hend⟩ := step_of_script_nil hs
    exact ⟨t, run_succ_of_step hstep 0, hend⟩
  | cons e rest ih =>
    obtain ⟨u, hstep, hu⟩ := step_takes_turn s
    rw [List.length_cons, run_succ_of_step hstep]
    exact ih u (by rw [hu, hs, List.tail_cons])

/-! The comparator's count (assumption 10). -/

theorem compareBytes_pairs (a b : List Byte) (n : Nat) : (compareBytes a b n).pairs = n := by
  induction n with
  | zero => rfl
  | succ n ih => rw [compareBytes, ih]

end Sys2Proof.Machine
end

section
/-! The family 47_totp.md: `GENAT`, `NOW`, `VERIFYAT` and `VERIFY`. -/

namespace Sys2Proof.Machine

/-- Settles O45: with a configuration the frame runs the effect of `TS2CTR` and then
that of `HOTP` on the counter it left, and completes once; without one it raises the
error. -/
theorem genatCommandWritesCode : Obligations.GenatCommandWritesCode := by
  unfold Obligations.GenatCommandWritesCode
  intro s hok
  rw [exec_genat_eq_frame]
  refine ⟨fun hvalid => ?_, computeFrame_invalid⟩
  have hhotp : exec .hotp (complete (counterEffect s.ts s)) = .next (complete (generateEffect s.ts s)) := by
    rw [exec_hotp, computeFrame_valid (s := complete (counterEffect s.ts s)) hvalid,
      complete_codeEffect_complete_counterEffect]
  exact ⟨complete (generateEffect s.ts s), digestOfCounter s.active (counterWord s.ts s.active).toNat,
    computeFrame_valid hvalid, counterWord_toNat s.ts s.active, rfl, generateEffect_digest_toList s.ts s,
    generateEffect_binary s s.ts, generateEffect_code_toList s.ts (digits_le_of_activeOk hok hvalid),
    generateAt_eq_truncate s.active s.ts, rfl,
    complete (counterEffect s.ts s), (exec_ts2ctr s).trans (computeFrame_valid hvalid), hhotp⟩

/-- Settles O46: the effect is that of `GENAT` for the time sample, and takes `TS`
along unread. -/
theorem nowCommandUsesSample : Obligations.NowCommandUsesSample := by
  unfold Obligations.NowCommandUsesSample
  intro s hok
  rw [exec_now_eq_frame]
  refine ⟨fun hvalid => ?_, computeFrame_invalid⟩
  exact ⟨complete (generateEffect s.tSample s), digestOfCounter s.active (counterWord s.tSample s.active).toNat,
    computeFrame_valid hvalid, counterWord_toNat s.tSample s.active, rfl, generateEffect_digest_toList s.tSample s,
    generateEffect_binary s s.tSample, generateEffect_code_toList s.tSample (digits_le_of_activeOk hok hvalid),
    generateAt_eq_truncate s.active s.tSample, rfl,
    fun ts => (exec_now_eq_frame _).trans (computeFrame_valid (s := { s with ts := ts }) hvalid)⟩

/-- Settles O47: with a configuration the frame writes `TUSED` and the result of the
window check, and completes; without one it raises the error. -/
theorem verifyatCommandChecksWindow : Obligations.VerifyatCommandChecksWindow := by
  unfold Obligations.VerifyatCommandChecksWindow
  intro s hok
  rw [exec_verifyat_eq_frame]
  exact ⟨fun hvalid => ⟨complete (verifyEffect s.ts s), computeFrame_valid hvalid,
      verifyAt_iff_windowHit s.ts (digits_le_of_activeOk hok hvalid), rfl⟩,
    computeFrame_invalid⟩

/-- Settles O48: the effect is that of `VERIFYAT` for the time sample, and takes `TS`
along unread. -/
theorem verifyCommandUsesSample : Obligations.VerifyCommandUsesSample := by
  unfold Obligations.VerifyCommandUsesSample
  intro s hok
  rw [exec_verify_eq_frame]
  exact ⟨fun hvalid => ⟨complete (verifyEffect s.tSample s), computeFrame_valid hvalid,
      verifyAt_iff_windowHit s.tSample (digits_le_of_activeOk hok hvalid), rfl,
      fun ts => (exec_verify_eq_frame _).trans (computeFrame_valid (s := { s with ts := ts }) hvalid)⟩,
    computeFrame_invalid⟩

/-- Settles O49: the shape check decides before the window, and the frame completes
on its result. -/
theorem wrongLengthNeverMatches : Obligations.WrongLengthNeverMatches := by
  unfold Obligations.WrongLengthNeverMatches
  intro s hvalid hlen
  have hframe (t : Word64) : computeFrame (verifyEffect t) s = .next (complete (setMatched false (setTused t s))) := by
    rw [computeFrame_valid hvalid, verifyEffect, verifyAt_of_length_ne hlen]
  exact ⟨(exec_verifyat_eq_frame s).trans (hframe s.ts), (exec_verify_eq_frame s).trans (hframe s.tSample)⟩

/-- Settles O51: offset 0 is inside every window, and its timestamp is `TS` itself. -/
theorem generateVerifyRoundTrip : Obligations.GenerateVerifyRoundTrip := by
  unfold Obligations.GenerateVerifyRoundTrip
  intro s window hok hvalid
  refine ⟨complete (generateEffect s.ts s), _, (exec_genat_eq_frame s).trans (computeFrame_valid hvalid),
    verifyat_accepts_generated (i := 0) hok hvalid rfl rfl rfl ?_ ?_ ?_, rfl, rfl, rfl⟩
  · omega
  · omega
  · simp [windowTime]

/-- Settles O52: with `WINDOW = 1` the offsets are those from -1 to 1; a code at one
of them is accepted, and an accepted candidate is a code at one of them. -/
theorem windowSymmetry : Obligations.WindowSymmetry := by
  unfold Obligations.WindowSymmetry
  intro s hok hvalid hwindow
  have hone : s.window.toNat = 1 := by rw [hwindow]; rfl
  refine ⟨fun i ts hlow hhigh hts => ?_, fun hnone => ?_⟩
  · exact ⟨complete (generateEffect ts { s with ts := ts }), _,
      (exec_genat_eq_frame _).trans (computeFrame_valid (s := { s with ts := ts }) hvalid),
      verifyat_accepts_generated hok hvalid rfl rfl rfl (by simpa [hone] using hlow) (by simpa [hone] using hhigh) hts,
      rfl⟩
  · refine ⟨complete (verifyEffect s.ts s), (exec_verifyat_eq_frame s).trans (computeFrame_valid hvalid),
      Bool.eq_false_iff.mpr fun hmatch => ?_⟩
    obtain ⟨-, i, hlow, hhigh, hnonneg, hmax, hcode⟩ :=
      (verifyAt_iff_windowHit s.ts (digits_le_of_activeOk hok hvalid)).mp hmatch
    obtain ⟨n, hn⟩ := Int.eq_ofNat_of_zero_le hnonneg
    have hts : (BitVec.ofNat 64 n).toNat = n := by
      rw [BitVec.toNat_ofNat]
      exact Nat.mod_eq_of_lt (by omega)
    refine hnone i (BitVec.ofNat 64 n) (by omega) (by omega) (by rw [hts, hn]) ?_
    rw [hts, ← hcode, hn, Int.toNat_natCast]

/-- Settles O53: with `MATCH` alike the two results differ in hidden state only,
which no read shows (O18). -/
theorem verifyRevealsOneBit : Obligations.VerifyRevealsOneBit := by
  unfold Obligations.VerifyRevealsOneBit
  intro s key a i hvalid hi
  have hframe (time : Word64) : ∃ t t', computeFrame (verifyEffect time) s = .next t ∧
      computeFrame (verifyEffect time) { s with key := key, active := a } = .next t' ∧
      (t.status.matched = t'.status.matched → ∀ off time, regRead off time t = regRead off time t') := by
    obtain ⟨t, t', ht, ht', hexists, hdiff⟩ := verifyFrame_differs_in_match time s key a hvalid
    refine ⟨t, t', ht, ht', fun hmatch off time => ?_⟩
    obtain rfl := hdiff hmatch
    exact (hiddenStateIsUnreadable t key a t.cmdLatch t.tSample hexists off time).symm
  obtain rfl | rfl := hi
  · simp only [exec_verify_eq_frame]
    exact hframe s.tSample
  · simp only [exec_verifyat_eq_frame]
    exact hframe s.ts

end Sys2Proof.Machine
end

section
/-! The families 60_exceptions.md and 70_reset_and_hazards.md, and the count of the
comparator of 46_compare.md. -/

namespace Sys2Proof.Machine

/-- Settles O25: an engine step that raises no error leaves `ERR` as it is or, for
`CLEAR`, at 0; and raising an error is the three writes. -/
theorem errorsArePrecise : Obligations.ErrorsArePrecise := by
  unfold Obligations.ErrorsArePrecise
  intro u t h hclear herr
  obtain rfl | ⟨i, -, hi⟩ := engineStep_cases h
  · exact ⟨by simp, rfl⟩
  obtain ⟨c, hc, rfl⟩ | ⟨a, -, -, rfl⟩ | ⟨-, rfl⟩ | ⟨-, -, -, v, rfl, -, -, b, hstatus, -⟩ := exec_next_cases hi
  · exact ⟨hc, rfl⟩
  · simp [hclear] at herr
  · simp [Status.reset] at herr
  · simp [hstatus, hclear] at herr

/-- Settles O57: each step takes a turn off the script, and with none left the engine
ends the command in progress, after which the machine rests. -/
theorem noStepStopsAndRunsEnd : Obligations.NoStepStopsAndRunsEnd := by
  unfold Obligations.NoStepStopsAndRunsEnd
  refine ⟨fun s => ?_, fun s => ?_⟩
  · obtain ⟨t, ht, -⟩ := step_takes_turn s
    exact ⟨t, ht⟩
  · obtain ⟨t, hrun, hbusy, hscript⟩ := run_ends s.env.script s rfl
    exact ⟨t, hrun, hbusy, hscript, step_of_final hbusy hscript⟩

/-- Settles O7: with `BUSY = 0` the turn is over with the state as it is, but for the
script where the turn was given to the engine. -/
theorem idleMachineRests : Obligations.IdleMachineRests := by
  unfold Obligations.IdleMachineRests
  intro s hbusy
  exact ⟨step_of_final hbusy, fun rest hs => step_settled (by simp [nextTurn, engineTurn, hs, hbusy, withScript])⟩

/-- Settles O8: the turn of a reset is over with the reset state, whatever `BUSY` is. -/
theorem resetEventRestoresResetState : Obligations.ResetEventRestoresResetState := by
  unfold Obligations.ResetEventRestoresResetState
  intro s rest hs
  exact step_settled (by simp [nextTurn, hs, hwReset])

/-- Settles O43: each turn of the comparator adds 1 to the count and looks at no byte to do so. -/
theorem ctEqInspectsEveryByte : Obligations.CtEqInspectsEveryByte := by
  unfold Obligations.CtEqInspectsEveryByte
  intro a b a' b' n
  exact ⟨compareBytes_pairs a b n, by rw [compareBytes_pairs, compareBytes_pairs]⟩

end Sys2Proof.Machine
end
